-- ==== Sys2Proof/Word.lean ====
section
/-! DEFINITION. The words of the pi-weather sensor decoder: what the spec treats as bits. -/

namespace Sys2Proof

/-- A sensor register's byte, a frame byte (`20_memory.md` R63, `10_state.md` R35). -/
abbrev Byte := BitVec 8

/-- A host command word (`30_encoding.md` R90). -/
abbrev CmdWord := BitVec 16

/-- A GPIO register or a host register (`10_state.md` R25, R32). -/
abbrev Word := BitVec 32

/-- A pin number, 0..31 (`10_state.md` R21). -/
abbrev Pin := BitVec 5

/-- A 7-bit I2C slave address (`10_state.md` R21). -/
abbrev Addr7 := BitVec 7

/-- A pulse count, CNT_W = 16 bits (`00_scope.md` R5). -/
abbrev Count := BitVec 16

end Sys2Proof
end

