-- ==== Sys2Proof/Syntax.lean ====
section
/-! DEFINITION. The nine host commands, one constructor for each row of spec/opcode_table.json
(`30_encoding.md` R91). -/

namespace Sys2Proof

/-- The sensor kind of a one-wire read (`30_encoding.md` R92): bit 8 of the word is 0 for the 11-type (DHT11), 1 for the
22-type (DHT22, AM2302). -/
inductive Kind where
  | type11
  | type22
  deriving DecidableEq, Repr

/-- A host command with its operands (`30_encoding.md` R91, R92). -/
inductive Instr where
  /-- GPIO_INIT, R120 -/
  | gpioInit
  /-- SET_INPUT p, R121 -/
  | setInput (p : Pin)
  /-- SET_OUTPUT p, R122 -/
  | setOutput (p : Pin)
  /-- SET_HIGH p, R123 -/
  | setHigh (p : Pin)
  /-- SET_LOW p, R124 -/
  | setLow (p : Pin)
  /-- READ_PIN p, R125 -/
  | readPin (p : Pin)
  /-- READ_ONEWIRE k, p, R140 -/
  | readOneWire (k : Kind) (p : Pin)
  /-- READ_BME280 a, R180 -/
  | readBme280 (a : Addr7)
  /-- READ_BMP180 a, R220 -/
  | readBmp180 (a : Addr7)
  deriving DecidableEq, Repr

end Sys2Proof
end

