-- ==== Sys2Proof/WellFormed.lean ====
section
/-! DEFINITION. Which written commands are commands. The types of `Instr` already bound every operand; the checks live
on the textual form of `30_encoding.md` R95, whose operands are numbers and names of any size. -/

namespace Sys2Proof

/-- A command as it is written (`30_encoding.md` R95): a pin is a decimal number, a kind a name, an address a number. -/
inductive SourceCommand where
  | gpioInit
  | setInput (p : Nat)
  | setOutput (p : Nat)
  | setHigh (p : Nat)
  | setLow (p : Nat)
  | readPin (p : Nat)
  | readOneWire (k : String) (p : Nat)
  | readBme280 (a : Nat)
  | readBmp180 (a : Nat)
  deriving DecidableEq, Repr

/-- PIN_MAX, the largest legal pin number (`00_scope.md` R5). -/
def pinMax : Nat := 31

/-- The largest 7-bit slave address (`30_encoding.md` R92). -/
def addrMax : Nat := 127

/-- The kind names the syntax accepts: `11`, `22`, and `DHT11`, `DHT22`, `AM2302` for 11, 22, 22 (R95). -/
def kindOfName (k : String) : Option Kind :=
  if k = "11" ∨ k = "DHT11" then some .type11
  else if k = "22" ∨ k = "DHT22" ∨ k = "AM2302" then some .type22
  else none

/-- The written command is legal: pins 0..31, addresses 0..127, a known kind (R92, R95). -/
def SourceCommand.wellFormed : SourceCommand → Bool
  | .gpioInit => true
  | .setInput p => p ≤ pinMax
  | .setOutput p => p ≤ pinMax
  | .setHigh p => p ≤ pinMax
  | .setLow p => p ≤ pinMax
  | .readPin p => p ≤ pinMax
  | .readOneWire k p => (kindOfName k).isSome && decide (p ≤ pinMax)
  | .readBme280 a => a ≤ addrMax
  | .readBmp180 a => a ≤ addrMax

/-- The command a legal written command stands for; an illegal one stands for none. -/
def SourceCommand.assemble (c : SourceCommand) : Option Instr :=
  if c.wellFormed then
    match c with
    | .gpioInit => some .gpioInit
    | .setInput p => some (.setInput (BitVec.ofNat 5 p))
    | .setOutput p => some (.setOutput (BitVec.ofNat 5 p))
    | .setHigh p => some (.setHigh (BitVec.ofNat 5 p))
    | .setLow p => some (.setLow (BitVec.ofNat 5 p))
    | .readPin p => some (.readPin (BitVec.ofNat 5 p))
    | .readOneWire k p => (kindOfName k).map (fun kind => .readOneWire kind (BitVec.ofNat 5 p))
    | .readBme280 a => some (.readBme280 (BitVec.ofNat 7 a))
    | .readBmp180 a => some (.readBmp180 (BitVec.ofNat 7 a))
  else none

/-- A command written out in the syntax of R95. -/
def Instr.toSource : Instr → SourceCommand
  | .gpioInit => .gpioInit
  | .setInput p => .setInput p.toNat
  | .setOutput p => .setOutput p.toNat
  | .setHigh p => .setHigh p.toNat
  | .setLow p => .setLow p.toNat
  | .readPin p => .readPin p.toNat
  | .readOneWire .type11 p => .readOneWire "11" p.toNat
  | .readOneWire .type22 p => .readOneWire "22" p.toNat
  | .readBme280 a => .readBme280 a.toNat
  | .readBmp180 a => .readBmp180 a.toNat

/-- A command is well formed when what it is written as is legal. Every term of `Instr` is. -/
def Instr.wellFormed (i : Instr) : Bool := i.toSource.wellFormed

end Sys2Proof
end

