-- ==== Sys2Proof/Decode.lean ====
section
/-! DEFINITION. The decoder and the encoder of the command word (`30_encoding.md` R90 to R93), written from one table. -/

namespace Sys2Proof

/-- Why a word is no command (`30_encoding.md` R93). -/
inductive Reject where
  /-- OPC is 0x0 or 0xA..0xF. -/
  | noSuchOpcode
  /-- A must-be-zero bit of the selected OPC is set. -/
  | mustBeZero
  deriving DecidableEq, Repr

/-- What the decoder answers: total, a word that is no command is rejected by name. -/
inductive Decoded where
  | command (i : Instr)
  | rejected (r : Reject)
  deriving DecidableEq, Repr

/-- The decoded command, where there is one. -/
def Decoded.toOption : Decoded → Option Instr
  | .command i => some i
  | .rejected _ => none

/-- OPC, bits 15:12 (R90). -/
def opcField (c : CmdWord) : BitVec 4 := c.extractLsb' 12 4

/-- The pin operand, bits 4:0 (R92). -/
def pinField (c : CmdWord) : Pin := c.extractLsb' 0 5

/-- The sensor kind, bit 8: 0 = 11-type, 1 = 22-type (R92). -/
def kindField (c : CmdWord) : Kind := if c.getLsbD 8 then .type22 else .type11

/-- The address operand, bits 6:0 (R92). -/
def addrField (c : CmdWord) : Addr7 := c.extractLsb' 0 7

/-- A row of the opcode map (R91): a word `c` selects it when `c & mask = match`. -/
structure OpcodeRow where
  mnemonic : String
  pattern : CmdWord
  mask : CmdWord
  build : CmdWord → Instr

/-- `c & mask = match` (R91). -/
def OpcodeRow.selects (r : OpcodeRow) (c : CmdWord) : Bool := decide (c &&& r.mask = r.pattern)

/-- The opcode map of R91, row by row. -/
def opcodeTable : List OpcodeRow :=
  [ ⟨"GPIO_INIT", 0x1000, 0xFFFF, fun _ => .gpioInit⟩,
    ⟨"SET_INPUT", 0x2000, 0xFFE0, fun c => .setInput (pinField c)⟩,
    ⟨"SET_OUTPUT", 0x3000, 0xFFE0, fun c => .setOutput (pinField c)⟩,
    ⟨"SET_HIGH", 0x4000, 0xFFE0, fun c => .setHigh (pinField c)⟩,
    ⟨"SET_LOW", 0x5000, 0xFFE0, fun c => .setLow (pinField c)⟩,
    ⟨"READ_PIN", 0x6000, 0xFFE0, fun c => .readPin (pinField c)⟩,
    ⟨"READ_ONEWIRE", 0x7000, 0xFEE0, fun c => .readOneWire (kindField c) (pinField c)⟩,
    ⟨"READ_BME280", 0x8000, 0xFF80, fun c => .readBme280 (addrField c)⟩,
    ⟨"READ_BMP180", 0x9000, 0xFF80, fun c => .readBmp180 (addrField c)⟩ ]

/-- Why a word that selects no row is illegal (R93). -/
def rejectReason (c : CmdWord) : Reject :=
  if opcField c = 0 ∨ 9 < (opcField c).toNat then .noSuchOpcode else .mustBeZero

/-- The decoder: the row the word selects, or the reason it selects none (R91, R93). -/
def decode (c : CmdWord) : Decoded :=
  match opcodeTable.find? (fun r => r.selects c) with
  | some r => .command (r.build c)
  | none => .rejected (rejectReason c)

/-- The bit that says the kind (R90). -/
def kindBit : Kind → BitVec 1
  | .type11 => 0
  | .type22 => 1

/-- The encoder: OPC ++ Z1 ++ K ++ Z2 ++ OPD (R90). -/
def encode : Instr → CmdWord
  | .gpioInit => 0x1#4 ++ 0#3 ++ 0#1 ++ 0#1 ++ 0#7
  | .setInput p => 0x2#4 ++ 0#3 ++ 0#1 ++ 0#1 ++ 0#2 ++ p
  | .setOutput p => 0x3#4 ++ 0#3 ++ 0#1 ++ 0#1 ++ 0#2 ++ p
  | .setHigh p => 0x4#4 ++ 0#3 ++ 0#1 ++ 0#1 ++ 0#2 ++ p
  | .setLow p => 0x5#4 ++ 0#3 ++ 0#1 ++ 0#1 ++ 0#2 ++ p
  | .readPin p => 0x6#4 ++ 0#3 ++ 0#1 ++ 0#1 ++ 0#2 ++ p
  | .readOneWire k p => 0x7#4 ++ 0#3 ++ kindBit k ++ 0#1 ++ 0#2 ++ p
  | .readBme280 a => 0x8#4 ++ 0#3 ++ 0#1 ++ 0#1 ++ a
  | .readBmp180 a => 0x9#4 ++ 0#3 ++ 0#1 ++ 0#1 ++ a

/-- The command the decoder reads from the 16 bits `w` (the table's numbering is the command word's own). -/
def decodeTableWord (nbits w : Nat) : Option Instr :=
  (decode (BitVec.ofNat 16 (w % 2 ^ nbits))).toOption

end Sys2Proof
end

