-- ==== Sys2Proof/Config.lean ====
section
/-! DEFINITION. What the spec leaves open: the OPEN parameters of `00_scope.md` R5 as one opaque record, the types of the
named parameters that have a default, and the free values the environment supplies (R9). Nothing here has a body that a
proof could see: a claim about the machine holds for every parameter and every draw. -/

namespace Sys2Proof

/-- A number in a result register (`10_state.md` R29): a rational; an integer for the BMP180 pressure
(`92_eei_decisions.md` D8). -/
inductive ResNum where
  | rational (q : Rat)
  | integer (z : Int)
  deriving DecidableEq, Repr

/-- PLAT's answer to the initialisation handshake (`40_gpio.md` R120). -/
inductive PlatAnswer where
  | ok (base : Nat)
  | dtUnreadable
  | devUnavailable
  | mapFailed
  deriving DecidableEq, Repr, Inhabited

/-- Rounding of a signed division: the values of the named parameter BMP_DIV (`43_bmp180.md` R228). -/
inductive DivMode where
  | trunc
  | floor
  deriving DecidableEq, Repr

/-- Where a new bit enters a frame byte: the values of the named parameter OW_SHIFT (`00_scope.md` R5). -/
inductive ShiftMode where
  | msbFirst
  | lsbFirst
  deriving DecidableEq, Repr

/-- The OPEN parameters of `00_scope.md` R5 that the block's rules, or the spec's parameter table, name.
SOC_BASE is not among them: it is what PLAT answers (R120). -/
structure Params where
  /-- FP, the rounding applied after each operation of a "floating-point" formula (`42_bme280.md` R192). -/
  fp : Rat → Rat
  /-- CHIPID_MANDATORY (`42_bme280.md` R182, D26). -/
  chipidMandatory : Bool
  /-- BME_VAL_CTRL_HUM, written to 0xF2 (`30_encoding.md` R107). -/
  bmeValCtrlHum : Byte
  /-- BME_VAL_CTRL_MEAS, written to 0xF4. -/
  bmeValCtrlMeas : Byte
  /-- BME_VAL_CONFIG, written to 0xF5. -/
  bmeValConfig : Byte
  /-- RES_REPR, how a result is presented in 32 bits (`10_state.md` R29, D8). -/
  resRepr : ResNum → Word
  /-- GPIO_WINDOW_BYTES (`20_memory.md` R61): no rule of the block reads it. -/
  gpioWindowBytes : Nat
  /-- T_POLL (`41_onewire.md` R145): no rule of the block reads it. -/
  tPoll : Rat
  deriving Inhabited

/-- The parameters of the machine: opaque, so every claim holds for every value (DESIGN CHOICE, log entry 11). -/
opaque Config.params : Params

/-! The free values: what the environment answers when State holds no answer ready (log entry 6). The argument is the
draw counter of State, so no two draws are tied to one another. -/

/-- A free answer of PLAT to GPIO_INIT. -/
opaque Config.freePlat : Nat → PlatAnswer

/-- A free LEV0 word: the levels the pins carry (`20_memory.md` R62). -/
opaque Config.freeLev0 : Nat → Word

/-- A free answer to `I2cOpen`: true is Ok (`20_memory.md` R63). -/
opaque Config.freeI2cOpen : Nat → Bool

/-- A free answer to `I2cRead`: the bytes the slave returns; fewer than asked for is Short (R64). -/
opaque Config.freeI2cRead : Nat → List Byte

/-- What a host read returns where the spec gives no value (`10_state.md` R25, R29). -/
opaque Config.freeHostWord : Nat → Word

end Sys2Proof
end

