-- ==== Sys2Proof/Machine/Memory.lean ====
section
/-! DEFINITION. The sensors' register space (`20_memory.md` R60 (2)): for each of 128 slave addresses, 256 byte registers.
It holds the byte the block last wrote to each register it wrote (`10_state.md` R20 (d), R41, R42) as a list of cells in
one canonical form: addresses strictly rising. -/

namespace Sys2Proof.Machine

/-- The bytes the block has written into sensor registers, by `sensorKey`. -/
abbrev Memory := List Host.Cell

/-- The place of register `r` of slave `a` in the space. -/
def sensorKey (a : Addr7) (r : Byte) : Nat := a.toNat * 256 + r.toNat

/-- What a register the block has never written reads as: no value (log entry 4). -/
def unlistedByte : Option Byte := none

/-- The byte held at a key. -/
def Memory.read (m : Memory) (k : Nat) : Option Byte :=
  match m with
  | [] => unlistedByte
  | (j, b) :: rest => if j = k then some b else Memory.read rest k

/-- Write one byte, keeping the canonical form. -/
def Memory.write (m : Memory) (k : Nat) (b : Byte) : Memory :=
  match m with
  | [] => [(k, b)]
  | (j, x) :: rest =>
    if k < j then (k, b) :: (j, x) :: rest
    else if k = j then (k, b) :: rest
    else (j, x) :: Memory.write rest k b

/-- The canonical form: addresses strictly rising, each in the space. No byte equals what an unlisted address reads
as, since that is no value. -/
def Memory.wf (m : Memory) : Bool :=
  match m with
  | [] => true
  | (j, _) :: rest =>
    decide (j < 128 * 256) && rest.all (fun c => decide (j < c.1)) && Memory.wf rest

end Sys2Proof.Machine
end

