-- ==== Sys2Proof/Machine/State.lean ====
section
/-! DEFINITION. The state of the block and of what it reaches (`10_state.md` R20), as plain data, and the state right
after reset (`10_state.md` R44). -/

namespace Sys2Proof.Machine

/-- PH, the phase register (`10_state.md` R22). -/
inductive Phase where
  | idle
  | ow0 | ow1a | ow1b | ow2 | ow3 | ow4 | ow5 | ow6 | ow7
  | b1 | b2 | b3 | b4 | b5 | b6 | b7
  | p1 | p2 | p3 | p4 | p5 | p6 | p7
  deriving DecidableEq, Repr

/-- The observable events (`20_memory.md` R77). -/
inductive Event where
  | memRead (w : Nat) (v : Word)
  | memWrite (w : Nat) (v : Word)
  | plat (a : PlatAnswer)
  | i2cOpen (a : Addr7) (ok : Bool)
  /-- `none` is Short. -/
  | i2cRead (a : Addr7) (r : Byte) (n : Nat) (answer : Option (List Byte))
  | i2cWrite (a : Addr7) (r : Byte) (v : Byte)
  /-- The minimum of a `Wait`, in microseconds. -/
  | wait (us : Nat)
  | crit (on : Bool)
  deriving DecidableEq, Repr

/-- What the outside world does to the block: the HOST's moves (`60_exceptions.md` R275), reset (`70_reset_and_hazards.md`
R290), and `tick`, which lets the sequencer take a step. -/
inductive Input where
  /-- The host writes host register `n`. -/
  | hostWrite (n : BitVec 3) (v : Word)
  /-- The host reads host register `n`. -/
  | hostRead (n : BitVec 3)
  /-- The host polls STATUS until BUSY = 0; the sequencer steps meanwhile. -/
  | awaitIdle
  | tick
  | reset
  deriving DecidableEq, Repr

/-- The one-wire working registers and buffers (`10_state.md` R21, R34, R35). -/
structure OneWireBuf where
  cnt : Count
  idx : BitVec 7
  acc : BitVec 21
  thr : Count
  /-- `trace[2i]` is the low duration of pair `i`, `trace[2i+1]` its high duration (R34). -/
  trace : Vector Count 82
  frame : Vector Byte 5
  deriving DecidableEq, Repr

/-- The BME280 calibration coefficients (`10_state.md` R36). -/
structure BmeCoef where
  t1 : Int
  t2 : Int
  t3 : Int
  p1 : Int
  p2 : Int
  p3 : Int
  p4 : Int
  p5 : Int
  p6 : Int
  p7 : Int
  p8 : Int
  p9 : Int
  h1 : Int
  h2 : Int
  h3 : Int
  h4 : Int
  h5 : Int
  h6 : Int
  deriving DecidableEq, Repr

/-- The BME280 temporaries (`10_state.md` R40). -/
structure BmeTmp where
  var1 : Rat
  var2 : Rat
  tFine : Int
  varH : Rat
  p : Rat
  deriving DecidableEq, Repr

/-- The BME280 coefficient set, raw readings and temporaries (`10_state.md` R36, R37, R40). -/
structure BmeBuf where
  coef : BmeCoef
  adcP : BitVec 20
  adcT : BitVec 20
  adcH : BitVec 16
  tmp : BmeTmp
  deriving DecidableEq, Repr

/-- The BMP180 calibration coefficients (`10_state.md` R38). -/
structure BmpCoef where
  ac1 : Int
  ac2 : Int
  ac3 : Int
  ac4 : Int
  ac5 : Int
  ac6 : Int
  b1 : Int
  b2 : Int
  mb : Int
  mc : Int
  md : Int
  deriving DecidableEq, Repr

/-- The BMP180 temporaries (`10_state.md` R40). -/
structure BmpTmp where
  x1 : Int
  x2 : Int
  x3 : Int
  b3 : Int
  b4 : Int
  b5 : Int
  b6 : Int
  b7 : Int
  p : Int
  t10 : Int
  deriving DecidableEq, Repr

/-- The BMP180 coefficient set, raw readings and temporaries (`10_state.md` R38, R39, R40). -/
structure BmpBuf where
  coef : BmpCoef
  ut : BitVec 16
  up : BitVec 16
  tmp : BmpTmp
  deriving DecidableEq, Repr

/-- The GPIO device registers that hold something (`10_state.md` R32, R33). -/
structure Gpio where
  fsel : Vector Word 4
  out : Word
  deriving DecidableEq, Repr

/-- The answers the environment has ready, first to be given first, and the number of free values drawn so far
(`00_scope.md` R9; the MODEL's own, log entry 6). Where a list is empty the answer is a free value of Config. -/
structure Env where
  plat : List PlatAnswer
  lev0 : List Word
  i2cOpen : List Bool
  i2cRead : List (List Byte)
  draws : Nat
  deriving DecidableEq, Repr

/-- The state: every piece of `10_state.md` R20, the delay timer of `60_exceptions.md` R270, and the model's own
`env`, `inputs`, `history`, `hostLog` (log entries 5, 6, 20). -/
structure State where
  ph : Phase
  busy : Bool
  done : Bool
  ginit : Bool
  crit : Bool
  halt : Bool
  pinr : Pin
  kindr : Kind
  addr7 : Addr7
  gbase : Nat
  /-- The delay timer, in microseconds (`60_exceptions.md` R270). -/
  delay : Nat
  err : Byte
  resT : Option ResNum
  resH : Option ResNum
  resP : Option ResNum
  pinval : Option Word
  chipid : Option Byte
  ow : OneWireBuf
  bme : BmeBuf
  bmp : BmpBuf
  gpio : Gpio
  sensors : Memory
  env : Env
  /-- What the outside world does next, in order. -/
  inputs : List Input
  /-- The events so far, newest first (`20_memory.md` R77). -/
  history : List Event
  /-- The host's reads so far with what each returned, newest first. -/
  hostLog : List (BitVec 3 × Word)
  deriving DecidableEq, Repr

/-- A stop that is a fault. The spec gives the machine none: every failure kind of `60_exceptions.md` R251 ends the
command in a next state (R265), and no rule reads a register without a value (`10_state.md` R44). Nobody raises one. -/
inductive Fault where
  deriving DecidableEq, Repr

/-- A stop that is a refusal. -/
inductive Refusal where
  /-- An instruction without a meaning: raised by no arm of exec (safe). -/
  | notModelled (mnemonic : String)
  /-- A command was handed over while another is in flight: raised by `cmdWrite` and by every meaning. The spec marks
  such a run refused and says nothing of it (`10_state.md` R26, `60_exceptions.md` R275, D5); safe. -/
  | commandWhileBusy
  /-- A reset in mid-command: raised by `resetInput`. The spec describes none and gives no move
  (`70_reset_and_hazards.md` R290, `93_implementation_defined.md` U8); safe. -/
  | resetInFlight
  deriving DecidableEq, Repr

/-- The coefficients, raw readings and temporaries hold no value at reset; the model names 0 (log entry 2). -/
def BmeBuf.reset : BmeBuf :=
  { coef := ⟨0, 0, 0, 0, 0, 0, 0, 0, 0, 0, 0, 0, 0, 0, 0, 0, 0, 0⟩, adcP := 0, adcT := 0, adcH := 0,
    tmp := ⟨0, 0, 0, 0, 0⟩ }

/-- As `BmeBuf.reset` (log entry 2). -/
def BmpBuf.reset : BmpBuf :=
  { coef := ⟨0, 0, 0, 0, 0, 0, 0, 0, 0, 0, 0⟩, ut := 0, up := 0, tmp := ⟨0, 0, 0, 0, 0, 0, 0, 0, 0, 0⟩ }

/-- CNT, IDX, ACC, THR (log entry 1), TRACE and FRAME (log entry 2) hold no value at reset; the model names 0. -/
def OneWireBuf.reset : OneWireBuf :=
  { cnt := 0, idx := 0, acc := 0, thr := 0, trace := Vector.replicate 82 0, frame := Vector.replicate 5 0 }

/-- The state right after reset (`10_state.md` R44). PH, the flags, ERR and the result registers are the spec's; the
working registers and buffers are the model's zeros (log entries 1, 2); the GPIO registers, which reset does not touch,
are the model's zeros (log entry 3). -/
def State.reset : State :=
  { ph := .idle
    busy := false
    done := false
    ginit := false
    crit := false
    halt := false
    pinr := 0
    kindr := .type11
    addr7 := 0
    gbase := 0
    delay := 0
    err := 0
    resT := none
    resH := none
    resP := none
    pinval := none
    chipid := none
    ow := OneWireBuf.reset
    bme := BmeBuf.reset
    bmp := BmpBuf.reset
    gpio := { fsel := Vector.replicate 4 0, out := 0 }
    sensors := []
    env := { plat := [], lev0 := [], i2cOpen := [], i2cRead := [], draws := 0 }
    inputs := []
    history := []
    hostLog := [] }

end Sys2Proof.Machine
end

