-- ==== Sys2Proof/Machine/Flags.lean ====
section
/-! DEFINITION. The flags and the STATUS register that shows them (`10_state.md` R24, R27). No arithmetic result sets a
flag; there are no condition codes (R24). -/

namespace Sys2Proof.Machine

/-- ERRF: 1 exactly when ERR ≠ 0 (R27). -/
def errf (s : State) : Bool := s.err != 0

/-- STATUS (R27): BUSY, DONE, ERRF, GINIT, CRIT, HALT in bits 0..5, bits 31:6 zero; live copies of the flags. -/
def statusWord (s : State) : Word :=
  0#26 ++ BitVec.ofBool s.halt ++ BitVec.ofBool s.crit ++ BitVec.ofBool s.ginit ++
    BitVec.ofBool (errf s) ++ BitVec.ofBool s.done ++ BitVec.ofBool s.busy

/-- CRIT <- b; a change of CRIT is an observable event (`20_memory.md` R77). -/
def setCrit (b : Bool) (s : State) : State :=
  { s with crit := b, history := if s.crit = b then s.history else .crit b :: s.history }

end Sys2Proof.Machine
end

