-- ==== Sys2Proof/Machine/Numeric.lean ====
section
/-! DEFINITION. The numbers of the pipelines (`00_scope.md` R6, R8): sign extensions, byte orders, shifts and divisions on
integers, and rational arithmetic under a rounding function. -/

namespace Sys2Proof.Machine

/-- s16(u): two's-complement reading of 0..65535 (R6). -/
def s16 (u : Nat) : Int := if u > 32767 then (u : Int) - 65536 else u

/-- s8(u): two's-complement reading of 0..255 (R6). -/
def s8 (u : Nat) : Int := if u > 127 then (u : Int) - 256 else u

/-- s12(u): two's-complement reading of 0..4095 (R6). -/
def s12 (u : Nat) : Int := if u > 2047 then (u : Int) - 4096 else u

/-- Byte `k` of a read's answer, as a number. -/
def byteAt (c : List Byte) (k : Nat) : Nat := (c.getD k 0).toNat

/-- Word `k` of a little-endian block (`20_memory.md` R65): `c[2k] + 256·c[2k+1]`. -/
def wordLe (c : List Byte) (k : Nat) : Nat := byteAt c (2 * k) + 256 * byteAt c (2 * k + 1)

/-- Word `k` of a big-endian block (`20_memory.md` R66): `256·c[2k] + c[2k+1]`. -/
def wordBe (c : List Byte) (k : Nat) : Nat := 256 * byteAt c (2 * k) + byteAt c (2 * k + 1)

/-- `a >> n` on an integer: the floor of a / 2^n (R6). -/
def sar (a : Int) (n : Nat) : Int := a / 2 ^ n

/-- The one signed division by a value that is not a power of two (`43_bmp180.md` R228). -/
def sdiv : DivMode → Int → Int → Int
  | .trunc, a, b => a.tdiv b
  | .floor, a, b => a.fdiv b

/-- `q` where it lies in the signed 32-bit range, else the range fault of `43_bmp180.md` R228. -/
def inS32 (q : Int) : Option Int := if -2147483648 ≤ q ∧ q ≤ 2147483647 then some q else none

/-- `q` where it lies in the unsigned 32-bit range, else the range fault of `43_bmp180.md` R228. -/
def inU32 (q : Int) : Option Int := if 0 ≤ q ∧ q ≤ 4294967295 then some q else none

/-- trunc(q): drops the fraction toward zero (R6). -/
def truncRat (q : Rat) : Int := q.num.tdiv q.den

/-- The clamp to HUM_CLAMP = [0, 100] (`42_bme280.md` R190). -/
def clampPercent (q : Rat) : Rat := if q > 100 then 100 else if q < 0 then 0 else q

/-! An operation of a "floating-point" formula: the exact result, rounded by FP (`42_bme280.md` R192, log entry 10). -/

def fadd (fp : Rat → Rat) (a b : Rat) : Rat := fp (a + b)
def fsub (fp : Rat → Rat) (a b : Rat) : Rat := fp (a - b)
def fmul (fp : Rat → Rat) (a b : Rat) : Rat := fp (a * b)
def fdiv (fp : Rat → Rat) (a b : Rat) : Rat := fp (a / b)
def fneg (fp : Rat → Rat) (a : Rat) : Rat := fp (-a)

end Sys2Proof.Machine
end

