-- ==== Sys2Proof/Machine/Params.lean ====
section
/-! DEFINITION. The parameters that have a value: those the document fixes (`00_scope.md` R4) and the named parameters
with the spec's default (R5, log entry 23). -/

namespace Sys2Proof.Machine

/-- GPIO_PINS_PER_FSEL -/
def gpioPinsPerFsel : Nat := 10
/-- GPIO_BITS_PER_PIN -/
def gpioBitsPerPin : Nat := 3
/-- GPIO_PERIPH_OFFSET -/
def gpioPeriphOffset : Nat := 0x200000
/-- GPIO_W_FSEL0, GPIO_W_SET0, GPIO_W_CLR0, GPIO_W_LEV0: word indices in the window (D22) -/
def gpioWFsel0 : Nat := 0
def gpioWSet0 : Nat := 7
def gpioWClr0 : Nat := 10
def gpioWLev0 : Nat := 13
/-- FSEL_INPUT and FSEL_OUTPUT (D22) -/
def fselInput : BitVec 3 := 0b000
def fselOutput : BitVec 3 := 0b001

/-- OW_TRACE_LEN, the counts of OW_PULSES = 41 low/high pairs -/
def owTraceLen : Nat := 82
/-- OW_MAXSPIN -/
def owMaxspin : Nat := 32000
/-- OW_WAKE_HIGH_MS and OW_START_LOW_MS, in microseconds -/
def owWakeHighUs : Nat := 500000
def owStartLowUs : Nat := 20000
/-- THR_FIRST and THR_LAST (D16) -/
def thrFirst : Nat := 1
def thrLast : Nat := 40
/-- OW_SHIFT (D18) -/
def owShift : ShiftMode := .msbFirst
/-- OW_CLAMP_HUM (D20) -/
def owClampHum : Bool := false

/-- BME_REG_* (R4) -/
def bmeRegChipid : Byte := 0xD0
def bmeRegCalibTp : Byte := 0x88
def bmeRegCalibH1 : Byte := 0xA1
def bmeRegCalibH2 : Byte := 0xE1
def bmeRegCtrlHum : Byte := 0xF2
def bmeRegCtrlMeas : Byte := 0xF4
def bmeRegConfig : Byte := 0xF5
def bmeRegData : Byte := 0xF7
/-- BME_CONV_WAIT_MS = 4.5, in microseconds -/
def bmeConvWaitUs : Nat := 4500
/-- BME_H45_SIGNED (D27) -/
def bmeH45Signed : Bool := false

/-- BMP_REG_* (R4) -/
def bmpRegChipid : Byte := 0xD0
def bmpRegCalib : Byte := 0xAA
def bmpRegCtrl : Byte := 0xF4
def bmpRegData : Byte := 0xF6
/-- BMP_OSS (R4) -/
def bmpOss : Nat := 0
/-- BMP_T_WAIT_MS = 4.5 and BMP_P_WAIT_MS = 5, in microseconds -/
def bmpTWaitUs : Nat := 4500
def bmpPWaitUs : Nat := 5000
/-- BMP_VAL_CTRL_T and BMP_VAL_CTRL_P = 0x34 + (BMP_OSS << 6) (D32) -/
def bmpValCtrlT : Byte := 0x2E
def bmpValCtrlP : Byte := BitVec.ofNat 8 (0x34 + bmpOss * 2 ^ 6)
/-- BMP_DIV (D33) -/
def bmpDiv : DivMode := .trunc

end Sys2Proof.Machine
end

