-- ==== Sys2Proof/Machine/Operands.lean ====
section
/-! DEFINITION. Operands and data layouts: the command a phase belongs to, where a pin lies in the GPIO registers
(`30_encoding.md` R98, R99), and how calibration and data bytes assemble (R104 to R109). -/

namespace Sys2Proof.Machine

/-- The command in flight: the compound command PH is a phase of, with the operands of the working registers
(`10_state.md` R21, R22); none at IDLE. -/
def State.inFlight (s : State) : Option Instr :=
  match s.ph with
  | .idle => none
  | .ow0 | .ow1a | .ow1b | .ow2 | .ow3 | .ow4 | .ow5 | .ow6 | .ow7 => some (.readOneWire s.kindr s.pinr)
  | .b1 | .b2 | .b3 | .b4 | .b5 | .b6 | .b7 => some (.readBme280 s.addr7)
  | .p1 | .p2 | .p3 | .p4 | .p5 | .p6 | .p7 => some (.readBmp180 s.addr7)

/-- The function-select register of a pin: FSEL[p div 10] (R98). -/
def fselIndex (p : Pin) : Fin 4 :=
  ⟨p.toNat / gpioPinsPerFsel, by have := p.isLt; simp only [gpioPinsPerFsel]; omega⟩

/-- The bit offset of a pin's field: (p mod 10)·3 (R98). -/
def fselShift (p : Pin) : Nat := p.toNat % gpioPinsPerFsel * gpioBitsPerPin

/-- The three bits of a pin's field, in place. -/
def fselMask (p : Pin) : Word := 0b111#32 <<< fselShift p

/-- A function-select word with the field of pin `p` set to `code`, every other bit kept (`40_gpio.md` R121, R122). -/
def fselPut (p : Pin) (code : BitVec 3) (v : Word) : Word :=
  (v &&& ~~~(fselMask p)) ||| (code.setWidth 32 <<< fselShift p)

/-- The field of pin `p` in a function-select word (R98). -/
def fselGet (p : Pin) (v : Word) : BitVec 3 := (v >>> fselShift p).setWidth 3

/-- The bit of a pin in SET0, CLR0 and LEV0: 1 << p (R99). -/
def pinBit (p : Pin) : Word := 1#32 <<< p.toNat

/-- The byte address of the window's word `w`: GBASE + 4·w (`20_memory.md` R61). -/
def State.gpioByteAddress (s : State) (w : Nat) : Nat := s.gbase + 4 * w

/-- Who drives a pin's line (`10_state.md` R33). -/
inductive LineDriver where
  /-- The peripheral drives the line to this level: the field is 0b001. -/
  | peripheral (level : Bool)
  /-- The peripheral does not drive the line: the field is 0b000. -/
  | released
  /-- Another function-select code: not described (U18). -/
  | notDescribed
  deriving DecidableEq, Repr

/-- Who drives the line of pin `p` (`10_state.md` R33). -/
def State.lineDriver (s : State) (p : Pin) : LineDriver :=
  if fselGet p s.gpio.fsel[fselIndex p] = fselOutput then .peripheral (s.gpio.out.getLsbD p.toNat)
  else if fselGet p s.gpio.fsel[fselIndex p] = fselInput then .released
  else .notDescribed

/-- T1..T3, P1..P9 from the 24 bytes of 0x88; the humidity coefficients are kept (R104). -/
def bmeCalibTp (c : List Byte) (k : BmeCoef) : BmeCoef :=
  { k with
    t1 := wordLe c 0
    t2 := s16 (wordLe c 1)
    t3 := s16 (wordLe c 2)
    p1 := wordLe c 3
    p2 := s16 (wordLe c 4)
    p3 := s16 (wordLe c 5)
    p4 := s16 (wordLe c 6)
    p5 := s16 (wordLe c 7)
    p6 := s16 (wordLe c 8)
    p7 := s16 (wordLe c 9)
    p8 := s16 (wordLe c 10)
    p9 := s16 (wordLe c 11) }

/-- H1 from the byte of 0xA1 (R105). -/
def bmeCalibH1 (a : List Byte) (k : BmeCoef) : BmeCoef := { k with h1 := byteAt a 0 }

/-- A 12-bit humidity coefficient, sign-extended where BME_H45_SIGNED says so (R105). -/
def bmeH45 (signed : Bool) (u : Nat) : Int := if signed then s12 u else u

/-- H2..H6 from the 7 bytes of 0xE1 (R105): H4 = h[3] << 4 | h[4] & 0x0F, H5 = h[5] << 4 | h[4] >> 4. -/
def bmeCalibH2 (h : List Byte) (k : BmeCoef) : BmeCoef :=
  { k with
    h2 := s16 (wordLe h 0)
    h3 := byteAt h 2
    h4 := bmeH45 bmeH45Signed (byteAt h 3 * 16 + byteAt h 4 % 16)
    h5 := bmeH45 bmeH45Signed (byteAt h 5 * 16 + byteAt h 4 / 16)
    h6 := s8 (byteAt h 6) }

/-- A 20-bit reading from MSB, LSB and XLSB, the low nibble of XLSB dropped (R106). -/
def bmeAdc20 (msb lsb xlsb : Byte) : BitVec 20 := (msb ++ lsb ++ xlsb).extractLsb' 4 20

/-- adc_P, adc_T, adc_H from the 8 bytes of 0xF7 (R106). -/
def bmeData (d : List Byte) (b : BmeBuf) : BmeBuf :=
  { b with
    adcP := bmeAdc20 (d.getD 0 0) (d.getD 1 0) (d.getD 2 0)
    adcT := bmeAdc20 (d.getD 3 0) (d.getD 4 0) (d.getD 5 0)
    adcH := d.getD 6 0 ++ d.getD 7 0 }

/-- The eleven BMP180 coefficients from the 22 bytes of 0xAA (R108). -/
def bmpCalib (c : List Byte) : BmpCoef :=
  { ac1 := s16 (wordBe c 0)
    ac2 := s16 (wordBe c 1)
    ac3 := s16 (wordBe c 2)
    ac4 := wordBe c 3
    ac5 := wordBe c 4
    ac6 := wordBe c 5
    b1 := s16 (wordBe c 6)
    b2 := s16 (wordBe c 7)
    mb := s16 (wordBe c 8)
    mc := s16 (wordBe c 9)
    md := s16 (wordBe c 10) }

/-- UT = 256·t[0] + t[1] (R109). -/
def bmpUt (t : List Byte) : BitVec 16 := t.getD 0 0 ++ t.getD 1 0

/-- UP = ((q[0] << 16) + (q[1] << 8) + q[2]) >> (8 − BMP_OSS), 16 bits wide at BMP_OSS = 0 (R109, `10_state.md` R39). -/
def bmpUp (q : List Byte) : BitVec 16 :=
  BitVec.ofNat 16 ((byteAt q 0 * 2 ^ 16 + byteAt q 1 * 2 ^ 8 + byteAt q 2) / 2 ^ (8 - bmpOss))

end Sys2Proof.Machine
end

