-- ==== Sys2Proof/Machine/Ops.lean ====
section
/-! DEFINITION. The shared operations: draws, the GPIO and I2C primitives (`20_memory.md` R62, R63), `Wait`
(`70_reset_and_hazards.md` R298), accepting a command (`10_state.md` R26), ending in failure and in success
(`60_exceptions.md` R265, R266), and the two shapes of a command. -/

namespace Sys2Proof.Machine

/-- Record an observable event (`20_memory.md` R77). -/
def emit (e : Event) (s : State) : State := { s with history := e :: s.history }

/-- PH <- p (`00_scope.md` R7). -/
def gotoPhase (p : Phase) (s : State) : State := { s with ph := p }

/-! Draws (`00_scope.md` R9, log entry 6). -/

/-- The environment's answer: the first it has ready, else a free value. -/
def answer {α : Type} (ready : List α) (free : Nat → α) (draws : Nat) : α := ready.headD (free draws)

/-- The draw counter moves on when a free value was taken. -/
def drawsAfter {α : Type} (ready : List α) (draws : Nat) : Nat := if ready.isEmpty then draws + 1 else draws

/-! GPIO primitives (`20_memory.md` R62). -/

/-- `MemRead` of FSEL[n]: the word last written. -/
def memReadFsel (n : Fin 4) (s : State) : Word × State :=
  (s.gpio.fsel[n], emit (.memRead (gpioWFsel0 + n) s.gpio.fsel[n]) s)

/-- `MemWrite` of FSEL[n]. -/
def memWriteFsel (n : Fin 4) (v : Word) (s : State) : State :=
  emit (.memWrite (gpioWFsel0 + n) v) { s with gpio := { s.gpio with fsel := s.gpio.fsel.set n v } }

/-- `MemWrite` of SET0: a one drives its latch high, a zero does nothing (`10_state.md` R32). -/
def memWriteSet0 (v : Word) (s : State) : State :=
  emit (.memWrite gpioWSet0 v) { s with gpio := { s.gpio with out := s.gpio.out ||| v } }

/-- `MemWrite` of CLR0: a one drives its latch low, a zero does nothing (`10_state.md` R32). -/
def memWriteClr0 (v : Word) (s : State) : State :=
  emit (.memWrite gpioWClr0 v) { s with gpio := { s.gpio with out := s.gpio.out &&& ~~~v } }

/-- The next LEV0 word: a draw. -/
def nextLev0 (s : State) : Word := answer s.env.lev0 Config.freeLev0 s.env.draws

/-- `MemRead` of LEV0: a draw, fresh at every read. -/
def memReadLev0 (s : State) : Word × State :=
  (nextLev0 s,
    emit (.memRead gpioWLev0 (nextLev0 s))
      { s with env := { s.env with lev0 := s.env.lev0.tail, draws := drawsAfter s.env.lev0 s.env.draws } })

/-! The pin operations (`40_gpio.md` R127): the device accesses of R121 to R125. -/

/-- `set_input(p)`: one read, one write; the field becomes 0b000 (R121). -/
def pinSetInput (p : Pin) (s : State) : State :=
  memWriteFsel (fselIndex p) (fselPut p fselInput (memReadFsel (fselIndex p) s).1) (memReadFsel (fselIndex p) s).2

/-- `set_output(p)`: one read, one write; the field becomes 0b001 (R122). -/
def pinSetOutput (p : Pin) (s : State) : State :=
  memWriteFsel (fselIndex p) (fselPut p fselOutput (memReadFsel (fselIndex p) s).1) (memReadFsel (fselIndex p) s).2

/-- `set_high(p)`: write 1 << p to SET0 (R123). -/
def pinSetHigh (p : Pin) (s : State) : State := memWriteSet0 (pinBit p) s

/-- `set_low(p)`: write 1 << p to CLR0 (R124). -/
def pinSetLow (p : Pin) (s : State) : State := memWriteClr0 (pinBit p) s

/-- `Sample(p)`: (LEV0 >> p) & 1, a fresh read (`41_onewire.md` R145). -/
def sample (p : Pin) (s : State) : Bool × State := ((memReadLev0 s).1.getLsbD p.toNat, (memReadLev0 s).2)

/-! The PLAT handshake and the I2C primitives (`20_memory.md` R63, R64). -/

/-- PLAT's next answer to GPIO_INIT: a draw (`40_gpio.md` R120). -/
def nextPlat (s : State) : PlatAnswer := answer s.env.plat Config.freePlat s.env.draws

/-- The initialisation handshake. -/
def platHandshake (s : State) : PlatAnswer × State :=
  (nextPlat s,
    emit (.plat (nextPlat s))
      { s with env := { s.env with plat := s.env.plat.tail, draws := drawsAfter s.env.plat s.env.draws } })

/-- The next answer to `I2cOpen`: a draw; true is Ok. -/
def nextOpen (s : State) : Bool := answer s.env.i2cOpen Config.freeI2cOpen s.env.draws

/-- `I2cOpen(ADDR7)`. -/
def i2cOpen (s : State) : Bool × State :=
  (nextOpen s,
    emit (.i2cOpen s.addr7 (nextOpen s))
      { s with env := { s.env with i2cOpen := s.env.i2cOpen.tail, draws := drawsAfter s.env.i2cOpen s.env.draws } })

/-- The bytes of an answer that has `n` of them, or Short (R64; log entry 16). -/
def fullRead (n : Nat) (b : List Byte) : Option (List Byte) := if n ≤ b.length then some (b.take n) else none

/-- The next answer to `I2cRead` of `n` bytes: a draw; none is Short. -/
def nextRead (n : Nat) (s : State) : Option (List Byte) :=
  fullRead n (answer s.env.i2cRead Config.freeI2cRead s.env.draws)

/-- `I2cRead(ADDR7, r, n)`. -/
def i2cRead (r : Byte) (n : Nat) (s : State) : Option (List Byte) × State :=
  (nextRead n s,
    emit (.i2cRead s.addr7 r n (nextRead n s))
      { s with env := { s.env with i2cRead := s.env.i2cRead.tail, draws := drawsAfter s.env.i2cRead s.env.draws } })

/-- `I2cWrite(ADDR7, r, v)`: the block observes no outcome. -/
def i2cWrite (r v : Byte) (s : State) : State :=
  emit (.i2cWrite s.addr7 r v) { s with sensors := s.sensors.write (sensorKey s.addr7 r) v }

/-- `Wait(t)`: the delay timer is loaded (`60_exceptions.md` R270) and the step completes (R298). -/
def wait (us : Nat) (s : State) : State := emit (.wait us) { s with delay := us }

/-! Entry and end of a command. -/

/-- Command accept, case (3) of `10_state.md` R26: the last command's outcome is cleared and BUSY is set; CHIPID is kept. -/
def accept (s : State) : State :=
  { s with done := false, err := 0, resT := none, resH := none, resP := none, pinval := none, busy := true }

/-- The failure kinds (`60_exceptions.md` R251). -/
inductive Failure where
  | gpioNotInitialized
  | ackTimeout
  | pulseTimeout
  | checksumMismatch
  | busOpenFailure
  | ioError
  | initDeviceTreeUnreadable
  | initDeviceUnavailable
  | initMapFailed
  | illegalCommand
  | arithFault
  deriving DecidableEq, Repr

/-- The code of a failure kind in ERR (`30_encoding.md` R110). -/
def Failure.code : Failure → Byte
  | .gpioNotInitialized => 1
  | .ackTimeout => 2
  | .pulseTimeout => 3
  | .checksumMismatch => 4
  | .busOpenFailure => 5
  | .ioError => 6
  | .initDeviceTreeUnreadable => 7
  | .initDeviceUnavailable => 8
  | .initMapFailed => 9
  | .illegalCommand => 10
  | .arithFault => 11

/-- The three initialisation kinds, which set HALT (`60_exceptions.md` R258 to R260). -/
def Failure.halts : Failure → Bool
  | .initDeviceTreeUnreadable | .initDeviceUnavailable | .initMapFailed => true
  | _ => false

/-- `fail K` (`60_exceptions.md` R265): the one way a command ends in failure. Nothing is saved and nothing is rolled
back; control goes to IDLE. -/
def fail (k : Failure) (s : State) : State :=
  { setCrit false s with
    err := k.code, resT := none, resH := none, resP := none, pinval := none,
    busy := false, done := true, ph := .idle, halt := s.halt || k.halts }

/-- `done` (`60_exceptions.md` R266): the one way a command ends in success. -/
def finish (s : State) : State := { s with busy := false, done := true, ph := .idle }

/-- A command that executes in one step from IDLE to IDLE (`10_state.md` R22). Handed over while a command is in flight
it is refused (R26, R275). -/
def single (body : State → State) (s : State) : Host.Outcome State Fault Refusal :=
  match s.inFlight with
  | none => .next (body (accept s))
  | some _ => .refused .commandWhileBusy

/-- A compound command: at IDLE it is accepted, its operands are latched and PH goes to its first phase (`10_state.md`
R22, R26); in flight, one step runs one phase (R23); while another command is in flight it is refused (R26, R275). -/
def compound (i : Instr) (latch : State → State) (first : Phase) (phase : State → State) (s : State) :
    Host.Outcome State Fault Refusal :=
  match s.inFlight with
  | none => .next (gotoPhase first (latch (accept s)))
  | some j => if j = i then .next (phase s) else .refused .commandWhileBusy

end Sys2Proof.Machine
end

