-- ==== Sys2Proof/Machine/Bme280.lean ====
section
/-! DEFINITION. READ_BME280, the BME280 calibrated decoder (`42_bme280.md`). -/

namespace Sys2Proof.Machine

/-! The compensation (R187 to R190), each operation rounded by FP in the order written (R192). -/

/-- var1 of R187: (adc_T / 16384 − T1 / 1024) * T2. -/
def bmeVar1 (fp : Rat → Rat) (k : BmeCoef) (adcT : Rat) : Rat :=
  fmul fp (fsub fp (fdiv fp adcT 16384) (fdiv fp k.t1 1024)) k.t2

/-- var2 of R187: (adc_T / 131072 − T1 / 8192) * (adc_T / 131072 − T1 / 8192) * T3. -/
def bmeVar2 (fp : Rat → Rat) (k : BmeCoef) (adcT : Rat) : Rat :=
  let d := fsub fp (fdiv fp adcT 131072) (fdiv fp k.t1 8192)
  fmul fp (fmul fp d d) k.t3

/-- t_fine of R187: trunc(var1 + var2). -/
def bmeTFine (fp : Rat → Rat) (var1 var2 : Rat) : Int := truncRat (fadd fp var1 var2)

/-- temp_c of R187: (var1 + var2) / 5120, from the untruncated sum. -/
def bmeTempC (fp : Rat → Rat) (var1 var2 : Rat) : Rat := fdiv fp (fadd fp var1 var2) 5120

/-- v1 of R188 at its first line: t_fine / 2 − 64000. -/
def bmePressV1 (fp : Rat → Rat) (tFine : Int) : Rat := fsub fp (fdiv fp tFine 2) 64000

/-- v2 of R188 after its third line. -/
def bmePressV2 (fp : Rat → Rat) (k : BmeCoef) (v1 : Rat) : Rat :=
  let a := fdiv fp (fmul fp (fmul fp v1 v1) k.p6) 32768
  let b := fadd fp a (fmul fp (fmul fp v1 k.p5) 2)
  fadd fp (fdiv fp b 4) (fmul fp k.p4 65536)

/-- The divisor v1 of R188, tested against 0: (1 + v1' / 32768) * P1 with
v1' = (P3 * v1 * v1 / 524288 + P2 * v1) / 524288. -/
def bmePressDivisor (fp : Rat → Rat) (k : BmeCoef) (v1 : Rat) : Rat :=
  let c := fdiv fp (fadd fp (fdiv fp (fmul fp (fmul fp k.p3 v1) v1) 524288) (fmul fp k.p2 v1)) 524288
  fmul fp (fadd fp 1 (fdiv fp c 32768)) k.p1

/-- p of R188 before the correction: (1048576 − adc_P − v2 / 4096) * 6250 / v1. -/
def bmePressP (fp : Rat → Rat) (adcP v2 divisor : Rat) : Rat :=
  fdiv fp (fmul fp (fsub fp (fsub fp 1048576 adcP) (fdiv fp v2 4096)) 6250) divisor

/-- pressure_pa of R188: p + (w1 + w2 + P7) / 16. -/
def bmePressPa (fp : Rat → Rat) (k : BmeCoef) (p : Rat) : Rat :=
  let w1 := fdiv fp (fmul fp (fmul fp k.p9 p) p) 2147483648
  let w2 := fdiv fp (fmul fp p k.p8) 32768
  fadd fp p (fdiv fp (fadd fp (fadd fp w1 w2) k.p7) 16)

/-- humidity_raw of R189. -/
def bmeHumidityRaw (fp : Rat → Rat) (k : BmeCoef) (tFine : Int) (adcH : Rat) : Rat :=
  let vh := fsub fp tFine 76800
  let first := fsub fp adcH (fadd fp (fmul fp k.h4 64) (fmul fp (fdiv fp k.h5 16384) vh))
  let inner := fadd fp 1 (fmul fp (fdiv fp k.h3 67108864) vh)
  let outer := fadd fp 1 (fmul fp (fmul fp (fdiv fp k.h6 67108864) vh) inner)
  let second := fmul fp (fdiv fp k.h2 65536) outer
  let prod := fmul fp first second
  fmul fp prod (fsub fp 1 (fdiv fp (fmul fp k.h1 prod) 524288))

/-! The phases. -/

/-- B1: open the bus (R181). -/
def phaseB1 (s : State) : State :=
  if (i2cOpen s).1 then gotoPhase .b2 (i2cOpen s).2 else fail .busOpenFailure (i2cOpen s).2

/-- A chip-ID read that goes on to phase `next` (R182, `43_bmp180.md` R222): CHIPID <- b[0]; a short read fails only
where CHIPID_MANDATORY. -/
def chipIdPhase (mandatory : Bool) (reg : Byte) (next : Phase) (s : State) : State :=
  match (i2cRead reg 1 s).1 with
  | some b => gotoPhase next { (i2cRead reg 1 s).2 with chipid := some (b.getD 0 0) }
  | none => if mandatory then fail .ioError (i2cRead reg 1 s).2 else gotoPhase next (i2cRead reg 1 s).2

/-- A mandatory read: on Short the command fails, else the bytes are put to use (`20_memory.md` R64). -/
def mandatoryRead (reg : Byte) (n : Nat) (use : List Byte → State → State) (s : State) : State :=
  match (i2cRead reg n s).1 with
  | some b => use b (i2cRead reg n s).2
  | none => fail .ioError (i2cRead reg n s).2

/-- B2: chip ID (R182). -/
def phaseB2 (mandatory : Bool) (s : State) : State := chipIdPhase mandatory bmeRegChipid .b3 s

/-- B3: 24 calibration bytes (R183). -/
def phaseB3 (s : State) : State :=
  mandatoryRead bmeRegCalibTp 24
    (fun c t => gotoPhase .b4 { t with bme := { t.bme with coef := bmeCalibTp c t.bme.coef } }) s

/-- B4: 1 + 7 humidity calibration bytes, two transactions, 0xA1 first (R184). -/
def phaseB4 (s : State) : State :=
  mandatoryRead bmeRegCalibH1 1
    (fun a t =>
      mandatoryRead bmeRegCalibH2 7
        (fun h u => gotoPhase .b5 { u with bme := { u.bme with coef := bmeCalibH2 h u.bme.coef } })
        { t with bme := { t.bme with coef := bmeCalibH1 a t.bme.coef } }) s

/-- B5: the three configuration writes, in the document's order, then the wait (R185). -/
def phaseB5 (P : Params) (s : State) : State :=
  gotoPhase .b6
    (wait bmeConvWaitUs
      (i2cWrite bmeRegConfig P.bmeValConfig
        (i2cWrite bmeRegCtrlMeas P.bmeValCtrlMeas
          (i2cWrite bmeRegCtrlHum P.bmeValCtrlHum s))))

/-- B6: 8 data bytes (R186). -/
def phaseB6 (s : State) : State :=
  mandatoryRead bmeRegData 8 (fun d t => gotoPhase .b7 { t with bme := bmeData d t.bme }) s

/-- The numeric temporaries of R40. -/
def setBmeTmp (f : BmeTmp → BmeTmp) (s : State) : State := { s with bme := { s.bme with tmp := f s.bme.tmp } }

/-- B7: temperature, pressure, humidity, clamp; all three results are committed together or not at all (R191). A zero
divisor is ArithFault (R188, D31). -/
def phaseB7 (fp : Rat → Rat) (s : State) : State :=
  let k := s.bme.coef
  let var1 := bmeVar1 fp k s.bme.adcT.toNat
  let var2 := bmeVar2 fp k s.bme.adcT.toNat
  let tFine := bmeTFine fp var1 var2
  let v1 := bmePressV1 fp tFine
  let divisor := bmePressDivisor fp k v1
  let warm := setBmeTmp (fun t => { t with var1 := var1, var2 := var2, tFine := tFine }) s
  if divisor = 0 then fail .arithFault warm
  else
    let p := bmePressP fp s.bme.adcP.toNat (bmePressV2 fp k v1) divisor
    let raw := bmeHumidityRaw fp k tFine s.bme.adcH.toNat
    finish
      { setBmeTmp (fun t => { t with p := p, varH := raw }) warm with
        resT := some (.rational (bmeTempC fp var1 var2))
        resP := some (.rational (bmePressPa fp k p))
        resH := some (.rational (clampPercent raw)) }

/-- The phase PH names (R180); a phase of another command is not this command's and changes nothing. -/
def bme280Phase (P : Params) (s : State) : State :=
  match s.ph with
  | .b1 => phaseB1 s
  | .b2 => phaseB2 P.chipidMandatory s
  | .b3 => phaseB3 s
  | .b4 => phaseB4 s
  | .b5 => phaseB5 P s
  | .b6 => phaseB6 s
  | .b7 => phaseB7 P.fp s
  | _ => s

/-- READ_BME280 a (R180) -/
def execReadBme280 (a : Addr7) (s : State) : Host.Outcome State Fault Refusal :=
  compound (.readBme280 a) (fun t => { t with addr7 := a }) .b1 (bme280Phase Config.params) s

end Sys2Proof.Machine
end

