-- ==== Sys2Proof/Machine/Bmp180.lean ====
section
/-! DEFINITION. READ_BMP180, the BMP180 calibrated decoder (`43_bmp180.md`). The compensation is a list of lines over the
temporaries, in the order of the pseudocode; a line that has no result is the ArithFault of R228. -/

namespace Sys2Proof.Machine

/-- A line of the pseudocode: the temporaries it leaves, or no result. -/
abbrev BmpLine := BmpTmp → Option BmpTmp

/-- Run lines in order up to the first that has no result (`60_exceptions.md` R264); the temporaries keep what was
written so far. -/
def runLines : List BmpLine → BmpTmp → Bool × BmpTmp
  | [], t => (true, t)
  | l :: rest, t =>
    match l t with
    | some t' => runLines rest t'
    | none => (false, t)

/-- The product or sum `a`, range-checked, shifted right by `n`, and the result range-checked (R228). -/
def shiftChecked (a : Int) (n : Nat) : Option Int := (inS32 a).bind (fun q => inS32 (sar q n))

/-- The lines of R226. -/
def temperatureLines (m : DivMode) (k : BmpCoef) (ut : Int) : List BmpLine :=
  [ -- X1 <- ((UT − AC6) * AC5) >> 15
    fun t => do
      let d ← inS32 (ut - k.ac6)
      let x ← shiftChecked (d * k.ac5) 15
      some { t with x1 := x },
    -- den <- X1 + MD; if den = 0 then fail; X2 <- sdiv(MC << 11, den)
    fun t => do
      let den ← inS32 (t.x1 + k.md)
      if den = 0 then none
      else
        let num ← inS32 (k.mc * 2 ^ 11)
        let x ← inS32 (sdiv m num den)
        some { t with x2 := x },
    -- B5 <- X1 + X2
    fun t => do
      let b ← inS32 (t.x1 + t.x2)
      some { t with b5 := b },
    -- T10 <- (B5 + 8) >> 4
    fun t => do
      let x ← shiftChecked (t.b5 + 8) 4
      some { t with t10 := x } ]

/-- The lines of R227 down to B3. -/
def pressureLinesB3 (oss : Nat) (k : BmpCoef) : List BmpLine :=
  [ -- B6 <- B5 − 4000
    fun t => do
      let b ← inS32 (t.b5 - 4000)
      some { t with b6 := b },
    -- X1 <- (B2 * ((B6 * B6) >> 12)) >> 11
    fun t => do
      let q ← shiftChecked (t.b6 * t.b6) 12
      let x ← shiftChecked (k.b2 * q) 11
      some { t with x1 := x },
    -- X2 <- (AC2 * B6) >> 11
    fun t => do
      let x ← shiftChecked (k.ac2 * t.b6) 11
      some { t with x2 := x },
    -- X3 <- X1 + X2
    fun t => do
      let x ← inS32 (t.x1 + t.x2)
      some { t with x3 := x },
    -- B3 <- (((AC1 * 4 + X3) << oss) + 2) >> 2
    fun t => do
      let a ← inS32 (k.ac1 * 4)
      let b ← inS32 (a + t.x3)
      let c ← inS32 (b * 2 ^ oss)
      let x ← shiftChecked (c + 2) 2
      some { t with b3 := x } ]

/-- The lines of R227 from the second X1 to B7. -/
def pressureLinesB7 (oss : Nat) (k : BmpCoef) (up : Int) : List BmpLine :=
  [ -- X1 <- (AC3 * B6) >> 13
    fun t => do
      let x ← shiftChecked (k.ac3 * t.b6) 13
      some { t with x1 := x },
    -- X2 <- (B1 * ((B6 * B6) >> 12)) >> 16
    fun t => do
      let q ← shiftChecked (t.b6 * t.b6) 12
      let x ← shiftChecked (k.b1 * q) 16
      some { t with x2 := x },
    -- X3 <- ((X1 + X2) + 2) >> 2
    fun t => do
      let a ← inS32 (t.x1 + t.x2)
      let x ← shiftChecked (a + 2) 2
      some { t with x3 := x },
    -- if X3 + 32768 < 0 then fail; B4 <- (AC4 * (X3 + 32768)) >> 15
    fun t => do
      let a ← inS32 (t.x3 + 32768)
      if a < 0 then none
      else
        let q ← inU32 (k.ac4 * a)
        let x ← inU32 (sar q 15)
        some { t with b4 := x },
    -- if UP − B3 < 0 then fail; B7 <- (UP − B3) * (50000 >> oss)
    fun t => do
      let a ← inS32 (up - t.b3)
      if a < 0 then none
      else
        let x ← inU32 (a * sar 50000 oss)
        some { t with b7 := x } ]

/-- The lines of R227 from the division to the result. -/
def pressureLinesP : List BmpLine :=
  [ -- if B4 = 0 then fail; p <- (B7 * 2) div B4 or (B7 div B4) * 2
    fun t =>
      if t.b4 = 0 then none
      else if t.b7 < 0x80000000 then do
        let a ← inU32 (t.b7 * 2)
        let x ← inS32 (a / t.b4)
        some { t with p := x }
      else do
        let x ← inS32 (t.b7 / t.b4 * 2)
        some { t with p := x },
    -- X1 <- (p >> 8) * (p >> 8)
    fun t => do
      let x ← inS32 (sar t.p 8 * sar t.p 8)
      some { t with x1 := x },
    -- X1 <- (X1 * 3038) >> 16
    fun t => do
      let x ← shiftChecked (t.x1 * 3038) 16
      some { t with x1 := x },
    -- X2 <- (−7357 * p) >> 16
    fun t => do
      let x ← shiftChecked (-7357 * t.p) 16
      some { t with x2 := x },
    -- p <- p + ((X1 + X2 + 3791) >> 4)
    fun t => do
      let a ← inS32 (t.x1 + t.x2)
      let c ← shiftChecked (a + 3791) 4
      let x ← inS32 (t.p + c)
      some { t with p := x } ]

/-- The lines of R227. -/
def pressureLines (oss : Nat) (k : BmpCoef) (up : Int) : List BmpLine :=
  pressureLinesB3 oss k ++ pressureLinesB7 oss k up ++ pressureLinesP

/-! The phases. -/

/-- P1: open the bus (R221). -/
def phaseP1 (s : State) : State :=
  if (i2cOpen s).1 then gotoPhase .p2 (i2cOpen s).2 else fail .busOpenFailure (i2cOpen s).2

/-- P2: chip ID (R222). -/
def phaseP2 (mandatory : Bool) (s : State) : State := chipIdPhase mandatory bmpRegChipid .p3 s

/-- P3: 22 calibration bytes (R223). -/
def phaseP3 (s : State) : State :=
  mandatoryRead bmpRegCalib 22 (fun c t => gotoPhase .p4 { t with bmp := { t.bmp with coef := bmpCalib c } }) s

/-- P4: request temperature, wait, read 2 bytes (R224). -/
def phaseP4 (s : State) : State :=
  mandatoryRead bmpRegData 2 (fun b t => gotoPhase .p5 { t with bmp := { t.bmp with ut := bmpUt b } })
    (wait bmpTWaitUs (i2cWrite bmpRegCtrl bmpValCtrlT s))

/-- P5: request pressure, wait, read 3 bytes (R225). -/
def phaseP5 (s : State) : State :=
  mandatoryRead bmpRegData 3 (fun b t => gotoPhase .p6 { t with bmp := { t.bmp with up := bmpUp b } })
    (wait bmpPWaitUs (i2cWrite bmpRegCtrl bmpValCtrlP s))

/-- Run lines on the temporaries: ArithFault where one has no result, else `next`. -/
def bmpCompute (lines : List BmpLine) (next : State → State) (s : State) : State :=
  let t := { s with bmp := { s.bmp with tmp := (runLines lines s.bmp.tmp).2 } }
  if (runLines lines s.bmp.tmp).1 then next t else fail .arithFault t

/-- P6: temperature compensation, B5 and T10 (R226). -/
def phaseP6 (s : State) : State :=
  bmpCompute (temperatureLines bmpDiv s.bmp.coef s.bmp.ut.toNat) (gotoPhase .p7) s

/-- P7: pressure compensation; RES_P is the integer p (R227). -/
def phaseP7 (s : State) : State :=
  bmpCompute (pressureLines bmpOss s.bmp.coef s.bmp.up.toNat)
    (fun t => finish { t with resP := some (.integer t.bmp.tmp.p) }) s

/-- The phase PH names (R220); a phase of another command is not this command's and changes nothing. -/
def bmp180Phase (P : Params) (s : State) : State :=
  match s.ph with
  | .p1 => phaseP1 s
  | .p2 => phaseP2 P.chipidMandatory s
  | .p3 => phaseP3 s
  | .p4 => phaseP4 s
  | .p5 => phaseP5 s
  | .p6 => phaseP6 s
  | .p7 => phaseP7 s
  | _ => s

/-- READ_BMP180 a (R220) -/
def execReadBmp180 (a : Addr7) (s : State) : Host.Outcome State Fault Refusal :=
  compound (.readBmp180 a) (fun t => { t with addr7 := a }) .p1 (bmp180Phase Config.params) s

end Sys2Proof.Machine
end

