-- ==== Sys2Proof/Machine/Gpio.lean ====
section
/-! DEFINITION. The six GPIO commands (`40_gpio.md`). -/

namespace Sys2Proof.Machine

/-- GPIO_INIT after accept (R120): a success consults no one; otherwise PLAT answers. -/
def gpioInitBody (s : State) : State :=
  if s.ginit then finish s
  else
    match (platHandshake s).1 with
    | .ok base => finish { (platHandshake s).2 with gbase := base + gpioPeriphOffset, ginit := true }
    | .dtUnreadable => fail .initDeviceTreeUnreadable (platHandshake s).2
    | .devUnavailable => fail .initDeviceUnavailable (platHandshake s).2
    | .mapFailed => fail .initMapFailed (platHandshake s).2

/-- A pin command after accept: PINR is latched (`30_encoding.md` R92), GINIT is tested before any device access
(R126), then the pin operation runs. -/
def pinBody (p : Pin) (op : State → State) (s : State) : State :=
  if s.ginit then finish (op { s with pinr := p }) else fail .gpioNotInitialized { s with pinr := p }

/-- PINVAL <- LEV0 & (1 << p) (R125). -/
def latchLevel (p : Pin) (s : State) : State :=
  { (memReadLev0 s).2 with pinval := some ((memReadLev0 s).1 &&& pinBit p) }

/-- GPIO_INIT (R120) -/
def execGpioInit (s : State) : Host.Outcome State Fault Refusal := single gpioInitBody s

/-- SET_INPUT p (R121) -/
def execSetInput (p : Pin) (s : State) : Host.Outcome State Fault Refusal := single (pinBody p (pinSetInput p)) s

/-- SET_OUTPUT p (R122) -/
def execSetOutput (p : Pin) (s : State) : Host.Outcome State Fault Refusal := single (pinBody p (pinSetOutput p)) s

/-- SET_HIGH p (R123) -/
def execSetHigh (p : Pin) (s : State) : Host.Outcome State Fault Refusal := single (pinBody p (pinSetHigh p)) s

/-- SET_LOW p (R124) -/
def execSetLow (p : Pin) (s : State) : Host.Outcome State Fault Refusal := single (pinBody p (pinSetLow p)) s

/-- READ_PIN p (R125) -/
def execReadPin (p : Pin) (s : State) : Host.Outcome State Fault Refusal := single (pinBody p (latchLevel p)) s

end Sys2Proof.Machine
end

