-- ==== Sys2Proof/Machine/OneWire.lean ====
section
/-! DEFINITION. READ_ONEWIRE, the one-wire pulse decoder (`41_onewire.md`). -/

namespace Sys2Proof.Machine

/-- CNT <- c -/
def setCnt (c : Count) (s : State) : State := { s with ow := { s.ow with cnt := c } }

/-- The result of a bounded busy-wait (R146). -/
inductive Spin where
  | ok (c : Count)
  | timeout
  deriving DecidableEq, Repr

/-- The poll loop of R146 with `budget` polls left: the poll that sees the other level is consumed and counted nowhere;
the poll that brings CNT to OW_MAXSPIN is a timeout. -/
def spinLoop (p : Pin) (level : Bool) : Nat → State → Spin × State
  | 0, s => (.timeout, s)
  | budget + 1, s =>
    let polled := sample p s
    if polled.1 ≠ level then (.ok polled.2.ow.cnt, polled.2)
    else
      let counted := setCnt (polled.2.ow.cnt + 1) polled.2
      if counted.ow.cnt = BitVec.ofNat 16 owMaxspin then (.timeout, counted) else spinLoop p level budget counted

/-- `SpinWhile(p, L)` (R146). -/
def spinWhile (p : Pin) (level : Bool) (s : State) : Spin × State := spinLoop p level owMaxspin (setCnt 0 s)

/-- TRACE[j] <- c -/
def setTrace (j : Nat) (c : Count) (s : State) : State :=
  { s with ow := { s.ow with trace := s.ow.trace.setIfInBounds j c } }

/-- The level measured into TRACE[j]: low at the even places, high at the odd ones (`10_state.md` R34). -/
def traceLevel (j : Nat) : Bool := j % 2 = 1

/-- The capture of R148 from TRACE[j] on, `n` measurements left; true when all of them end in time. -/
def captureFrom (p : Pin) : Nat → Nat → State → Bool × State
  | 0, _, s => (true, s)
  | n + 1, j, s =>
    let measured := spinWhile p (traceLevel j) { s with ow := { s.ow with idx := BitVec.ofNat 7 j } }
    match measured.1 with
    | .timeout => (false, measured.2)
    | .ok c => captureFrom p n (j + 1) (setTrace j c measured.2)

/-! The decoder as a function of the trace (R150 to R156). -/

/-- The low duration of pair `i`. -/
def pairLow (t : Vector Count 82) (i : Nat) : Count := t.getD (2 * i) 0

/-- The high duration of pair `i`. -/
def pairHigh (t : Vector Count 82) (i : Nat) : Count := t.getD (2 * i + 1) 0

/-- ACC: the sum of the low durations of pairs THR_FIRST..THR_LAST (R150). -/
def lowSum (t : Vector Count 82) : BitVec 21 :=
  (List.range' thrFirst (thrLast + 1 - thrFirst)).foldl (fun acc i => acc + (pairLow t i).setWidth 21) 0

/-- THR: the floor of the mean (R150, THR_DIV = floor). -/
def threshold (acc : BitVec 21) : Count := (acc / BitVec.ofNat 21 (thrLast + 1 - thrFirst)).setWidth 16

/-- Data bit `k`: the high duration of pair k+1 is at least the threshold (R100, R151). -/
def dataBit (t : Vector Count 82) (thr : Count) (k : Nat) : Bool := thr ≤ pairHigh t (k + 1)

/-- A received bit enters a frame byte (R151, OW_SHIFT). -/
def shiftIn (m : ShiftMode) (byte : Byte) (b : Bool) : Byte :=
  match m with
  | .msbFirst => (byte <<< 1) ||| (BitVec.ofBool b).setWidth 8
  | .lsbFirst => (byte >>> 1) ||| ((BitVec.ofBool b).setWidth 8 <<< 7)

/-- FRAME from the trace and the threshold (R151). -/
def extractFrame (t : Vector Count 82) (thr : Count) : Vector Byte 5 :=
  (List.range 40).foldl
    (fun f k => f.setIfInBounds (k / 8) (shiftIn owShift (f.getD (k / 8) 0) (dataBit t thr k)))
    (Vector.replicate 5 0)

/-- The truncated sum of the four data bytes (R152). -/
def checksum (f : Vector Byte 5) : Byte := f[0] + f[1] + f[2] + f[3]

/-- The one-wire humidity is clamped only where OW_CLAMP_HUM says so (R154, D20). -/
def owHumidity (clamp : Bool) (q : Rat) : Rat := if clamp then clampPercent q else q

/-- RES_H of a frame (R154, R155). -/
def frameHumidity (fp : Rat → Rat) (k : Kind) (f : Vector Byte 5) : Rat :=
  owHumidity owClampHum
    (match k with
    | .type22 => fdiv fp ((f[0].toNat * 256 + f[1].toNat : Nat) : Rat) 10
    | .type11 => ((f[0].toNat : Nat) : Rat))

/-- The magnitude of a 22-type temperature in tenths (R154). -/
def frameMag10 (f : Vector Byte 5) : Nat := (f[2] &&& 0x7F).toNat * 256 + f[3].toNat

/-- RES_T of a frame (R154, R155). -/
def frameTemperature (fp : Rat → Rat) (k : Kind) (f : Vector Byte 5) : Rat :=
  match k with
  | .type22 =>
    if f[2].getLsbD 7 then fneg fp (fdiv fp ((frameMag10 f : Nat) : Rat) 10)
    else fdiv fp ((frameMag10 f : Nat) : Rat) 10
  | .type11 => ((f[2].toNat : Nat) : Rat)

/-! The phases. -/

/-- OW0: the initialisation check (R141). -/
def phaseOw0 (s : State) : State := if s.ginit then gotoPhase .ow1a s else fail .gpioNotInitialized s

/-- OW1a: wake (R142). -/
def phaseOw1a (s : State) : State :=
  gotoPhase .ow1b (wait owWakeHighUs (pinSetHigh s.pinr (pinSetOutput s.pinr s)))

/-- OW1b: start signal (R143). -/
def phaseOw1b (s : State) : State := gotoPhase .ow2 (wait owStartLowUs (pinSetLow s.pinr s))

/-- OW2: listen; CRIT is raised first (R144). -/
def phaseOw2 (s : State) : State := gotoPhase .ow3 (pinSetInput s.pinr (setCrit true s))

/-- OW3: acknowledge; the count is discarded (R147). -/
def phaseOw3 (s : State) : State :=
  match (spinWhile s.pinr true s).1 with
  | .timeout => fail .ackTimeout (spinWhile s.pinr true s).2
  | .ok _ => gotoPhase .ow4 (spinWhile s.pinr true s).2

/-- TRACE is produced fresh: every entry 0 (R148). -/
def clearTrace (s : State) : State := { s with ow := { s.ow with trace := Vector.replicate 82 0 } }

/-- OW4: pulse capture (R148). -/
def phaseOw4 (s : State) : State :=
  if (captureFrom s.pinr owTraceLen 0 (clearTrace s)).1
  then gotoPhase .ow5 (captureFrom s.pinr owTraceLen 0 (clearTrace s)).2
  else fail .pulseTimeout (captureFrom s.pinr owTraceLen 0 (clearTrace s)).2

/-- OW5: threshold, then bits (R150, R151). -/
def phaseOw5 (s : State) : State :=
  gotoPhase .ow6
    { s with ow := { s.ow with
        acc := lowSum s.ow.trace
        thr := threshold (lowSum s.ow.trace)
        frame := extractFrame s.ow.trace (threshold (lowSum s.ow.trace)) } }

/-- OW6: checksum verification, then CRIT is released (R152, R153). -/
def phaseOw6 (s : State) : State :=
  if s.ow.frame[4] ≠ checksum s.ow.frame then fail .checksumMismatch s else gotoPhase .ow7 (setCrit false s)

/-- OW7: conversion (R154, R155). -/
def phaseOw7 (fp : Rat → Rat) (s : State) : State :=
  finish
    { s with
      resH := some (.rational (frameHumidity fp s.kindr s.ow.frame))
      resT := some (.rational (frameTemperature fp s.kindr s.ow.frame))
      resP := none }

/-- The phase PH names (R140); a phase of another command is not this command's and changes nothing. -/
def oneWirePhase (P : Params) (s : State) : State :=
  match s.ph with
  | .ow0 => phaseOw0 s
  | .ow1a => phaseOw1a s
  | .ow1b => phaseOw1b s
  | .ow2 => phaseOw2 s
  | .ow3 => phaseOw3 s
  | .ow4 => phaseOw4 s
  | .ow5 => phaseOw5 s
  | .ow6 => phaseOw6 s
  | .ow7 => phaseOw7 P.fp s
  | _ => s

/-- READ_ONEWIRE k, p (R140) -/
def execReadOneWire (k : Kind) (p : Pin) (s : State) : Host.Outcome State Fault Refusal :=
  compound (.readOneWire k p) (fun t => { t with kindr := k, pinr := p }) .ow0 (oneWirePhase Config.params) s

end Sys2Proof.Machine
end

