-- ==== Sys2Proof/Machine/Dispatch.lean ====
section
/-! DEFINITION. One arm per command (`30_encoding.md` R91), each one call of its meaning. -/

namespace Sys2Proof.Machine

def exec (i : Instr) (s : State) : Host.Outcome State Fault Refusal :=
  match i with
  | .gpioInit => Sys2Proof.Machine.execGpioInit s
  | .setInput p => Sys2Proof.Machine.execSetInput p s
  | .setOutput p => Sys2Proof.Machine.execSetOutput p s
  | .setHigh p => Sys2Proof.Machine.execSetHigh p s
  | .setLow p => Sys2Proof.Machine.execSetLow p s
  | .readPin p => Sys2Proof.Machine.execReadPin p s
  | .readOneWire k p => Sys2Proof.Machine.execReadOneWire k p s
  | .readBme280 a => Sys2Proof.Machine.execReadBme280 a s
  | .readBmp180 a => Sys2Proof.Machine.execReadBmp180 a s

end Sys2Proof.Machine
end

