-- ==== Sys2Proof/Machine/HostPort.lean ====
section
/-! DEFINITION. What the outside world does to the block: host reads and writes (`10_state.md` R25, R26), reset
(`70_reset_and_hazards.md` R290), and the sequencer's own step (`10_state.md` R23). -/

namespace Sys2Proof.Machine

/-- The sequencer's step: at IDLE it waits for the host (R290), in flight it runs the phase PH names (R23). -/
def sequencerStep (s : State) : Host.Outcome State Fault Refusal :=
  match s.inFlight with
  | none => .next s
  | some i => exec i s

/-- A host write of CMD (R26): refused while BUSY = 1; without effect while HALT = 1; else the low half is decoded,
an illegal word ends at once with IllegalCommand (`30_encoding.md` R93), and a command runs. -/
def cmdWrite (v : Word) (s : State) : Host.Outcome State Fault Refusal :=
  if s.busy then .refused .commandWhileBusy
  else if s.halt then .next s
  else
    match decode (v.setWidth 16) with
    | .command i => exec i s
    | .rejected _ => .next (fail .illegalCommand s)

/-- A host write of host register `n`: only CMD, number 0, is written; a write to a read-only register has no effect
(R25). -/
def hostWrite (n : BitVec 3) (v : Word) (s : State) : Host.Outcome State Fault Refusal :=
  if n = 0 then cmdWrite v s else .next s

/-- What a host register presents (R25, R27 to R31), none where the spec gives no value: CMD, a register holding no
value, and every register but STATUS while BUSY = 1. -/
def hostView (repr : ResNum → Word) (n : BitVec 3) (s : State) : Option Word :=
  if n = 1 then some (statusWord s)
  else if s.busy then none
  else if n = 2 then some (s.err.setWidth 32)
  else if n = 3 then s.resT.map repr
  else if n = 4 then s.resH.map repr
  else if n = 5 then s.resP.map repr
  else if n = 6 then s.pinval
  else if n = 7 then s.chipid.map (fun b => b.setWidth 32)
  else none

/-- A host read of host register `n`: the presented value, or a draw; no side effect on the block (R25, U3, U4). -/
def hostRead (repr : ResNum → Word) (n : BitVec 3) (s : State) : State :=
  match hostView repr n s with
  | some v => { s with hostLog := (n, v) :: s.hostLog }
  | none =>
    { s with
      hostLog := (n, Config.freeHostWord s.env.draws) :: s.hostLog
      env := { s.env with draws := s.env.draws + 1 } }

/-- Reset puts every piece of block state at its reset value and touches no device (R290).
DESIGN CHOICE: of the model's own fields, on which R290 is silent, `history` and `hostLog` survive (log entry 20), and so do
`inputs` and `env`, what the outside world has still to do (log entry 9). -/
def State.resetBlock (s : State) : State :=
  { State.reset with
    gpio := s.gpio, sensors := s.sensors, env := s.env, inputs := s.inputs, history := s.history, hostLog := s.hostLog }

/-- A reset from outside: described between commands only (R290, U8). -/
def resetInput (s : State) : Host.Outcome State Fault Refusal :=
  if s.busy then .refused .resetInFlight else .next s.resetBlock

/-- What one input does; `awaitIdle` is handled by `step`, which keeps it while BUSY = 1. -/
def inputStep (i : Input) (s : State) : Host.Outcome State Fault Refusal :=
  match i with
  | .hostWrite n v => hostWrite n v s
  | .hostRead n => .next (hostRead Config.params.resRepr n s)
  | .awaitIdle => .next s
  | .tick => sequencerStep s
  | .reset => resetInput s

/-- One step: with no input left the sequencer steps; the host polling for BUSY = 0 lets it step while BUSY = 1; any
other input is taken off the list and acts. -/
def stepOnce (s : State) : Host.Outcome State Fault Refusal :=
  match s.inputs with
  | [] => sequencerStep s
  | .awaitIdle :: rest => if s.busy then sequencerStep s else .next { s with inputs := rest }
  | i :: rest => inputStep i { s with inputs := rest }

/-- The host's next move is to write the 16-bit word `w` to CMD, and the block is where it accepts one: at IDLE, not
BUSY, not halted. -/
def State.offerWord (s : State) (w : Nat) : State :=
  { s with ph := .idle, busy := false, halt := false, inputs := .hostWrite 0 (BitVec.ofNat 32 (w % 2 ^ 16)) :: s.inputs }

end Sys2Proof.Machine
end

