-- ==== Sys2Proof/Machine/Step.lean ====
section
/-! DEFINITION. One step of the machine, and how a word is placed where the next step takes it. -/

namespace Sys2Proof.Machine

/-- One step (`00_scope.md` R9): the outside world's next move, or the sequencer's. -/
def step (s : State) : Host.Outcome State Fault Refusal := stepOnce s

/-- `s` with the command word `w` as the host's next write of CMD. A command has 16 bits and no operand word. -/
def State.withFetchWord (s : State) (nbits w : Nat) : State := s.offerWord (w % 2 ^ nbits)

end Sys2Proof.Machine
end

