-- ==== Sys2Proof/Safety.lean ====
section
/-! DEFINITION. What counts as a safe state and a safe run, in the terms the claims use. -/

namespace Sys2Proof.Machine

/-- The phases between which CRIT is open: raised in OW2, released at the end of OW6 (`10_state.md` R24). -/
def Phase.critical : Phase → Bool
  | .ow3 | .ow4 | .ow5 | .ow6 => true
  | _ => false

/-- The phases of READ_ONEWIRE after the initialisation check. -/
def Phase.usesGpio : Phase → Bool
  | .ow1a | .ow1b | .ow2 | .ow3 | .ow4 | .ow5 | .ow6 | .ow7 => true
  | _ => false

/-- The phases at which a completed capture is in TRACE. -/
def Phase.captured : Phase → Bool
  | .ow5 | .ow6 | .ow7 => true
  | _ => false

/-- The phases at which OW2 has released the pin. -/
def Phase.released : Phase → Bool
  | .ow3 | .ow4 | .ow5 | .ow6 | .ow7 => true
  | _ => false

/-- No result register and not PINVAL holds a value. -/
def State.noResults (s : State) : Bool := s.resT.isNone && s.resH.isNone && s.resP.isNone && s.pinval.isNone

/-- The invariant of the flags and the host-visible registers: BUSY exactly in flight (R22, R24, R266), CRIT exactly in
the critical phases (R24), DONE never with BUSY, ERR and the results clear while in flight (R26), a failure leaves no
result (R265), HALT only after a failed initialisation (R267), and one-wire phases past OW0 only with GINIT (R126). -/
def State.FlagInv (s : State) : Prop :=
  (s.busy = true ↔ s.ph ≠ .idle) ∧
  (s.crit = s.ph.critical) ∧
  (s.done = true → s.busy = false) ∧
  (s.busy = true → s.err = 0 ∧ s.noResults = true) ∧
  (s.err ≠ 0 → s.done = true ∧ s.noResults = true ∧ s.err ≤ 11) ∧
  (s.halt = true → s.ginit = false ∧ s.done = true ∧ (s.err = 7 ∨ s.err = 8 ∨ s.err = 9)) ∧
  (s.ph.usesGpio = true → s.ginit = true)

/-- The sensors' register space keeps its canonical form. -/
def State.MemInv (s : State) : Prop := s.sensors.wf = true

/-- Every count of a completed capture is in 0..31999 (`10_state.md` R34). -/
def State.TraceInv (s : State) : Prop :=
  s.ph.captured = true → ∀ j < owTraceLen, (s.ow.trace.getD j 0).toNat < owMaxspin

/-- From the release of the pin on, its field is 0b000 and its latch is 0 (`41_onewire.md` R160). -/
def State.ReleaseInv (s : State) : Prop :=
  (s.ph = .ow2 → s.gpio.out.getLsbD s.pinr.toNat = false) ∧
  (s.ph.released = true →
    fselGet s.pinr s.gpio.fsel[fselIndex s.pinr] = fselInput ∧ s.gpio.out.getLsbD s.pinr.toNat = false)

/-- A command has ended: BUSY = 0, DONE = 1, PH = IDLE, CRIT = 0 (`70_reset_and_hazards.md` R299). -/
def State.Ended (s : State) : Prop := s.busy = false ∧ s.done = true ∧ s.ph = .idle ∧ s.crit = false

/-- The state without the registers and buffers that the next command rebuilds (`10_state.md` R45). -/
def State.forget (s : State) : State :=
  { s with
    pinr := State.reset.pinr, kindr := State.reset.kindr, addr7 := State.reset.addr7, delay := State.reset.delay,
    ow := OneWireBuf.reset, bme := BmeBuf.reset, bmp := BmpBuf.reset }

/-- `s` after a command that ended in success and whose own effect is nothing more: accept cleared the last outcome
(`10_state.md` R26), `done` set DONE (`60_exceptions.md` R266). -/
def State.succeeded (s : State) : State :=
  { s with
    ph := .idle, busy := false, done := true, err := 0, resT := none, resH := none, resP := none, pinval := none }

/-- `s` after a command that ended in failure with code `c` and whose own effect is nothing more
(`60_exceptions.md` R265); CRIT was 0. -/
def State.failedWith (c : Byte) (s : State) : State :=
  { s with
    ph := .idle, busy := false, done := true, crit := false, err := c,
    resT := none, resH := none, resP := none, pinval := none }

/-- `s` after READ_ONEWIRE failed with code `c` inside the critical region: as `failedWith`, and the change of CRIT is
an event (`20_memory.md` R77). -/
def State.abortedWith (c : Byte) (s : State) : State :=
  { s.failedWith c with history := .crit false :: s.history }

/-- The environment after one LEV0 word was drawn. -/
def Env.drewLev0 (e : Env) : Env := { e with lev0 := e.lev0.tail, draws := drawsAfter e.lev0 e.draws }

/-- The environment after PLAT answered. -/
def Env.drewPlat (e : Env) : Env := { e with plat := e.plat.tail, draws := drawsAfter e.plat e.draws }

/-- The environment after `I2cOpen` was answered. -/
def Env.drewOpen (e : Env) : Env := { e with i2cOpen := e.i2cOpen.tail, draws := drawsAfter e.i2cOpen e.draws }

/-- The environment after an `I2cRead` was answered. -/
def Env.drewRead (e : Env) : Env := { e with i2cRead := e.i2cRead.tail, draws := drawsAfter e.i2cRead e.draws }

/-- `s` after an `I2cRead` of `n` bytes at register `r`: only the environment and the history have moved. -/
def State.afterRead (r : Byte) (n : Nat) (s : State) : State :=
  { s with env := s.env.drewRead, history := .i2cRead s.addr7 r n (nextRead n s) :: s.history }

/-- `s` after one byte was written to a sensor register and then a wait of `us` was made. -/
def State.afterRequest (r v : Byte) (us : Nat) (s : State) : State :=
  { s with
    sensors := s.sensors.write (sensorKey s.addr7 r) v, delay := us,
    history := .wait us :: .i2cWrite s.addr7 r v :: s.history }

/-- `decode(kind, trace)` of `41_onewire.md` R156 under a rounding: temperature and humidity, or none for a checksum
mismatch. -/
def owDecode (fp : Rat → Rat) (k : Kind) (t : Vector Count 82) : Option (Rat × Rat) :=
  let f := extractFrame t (threshold (lowSum t))
  if f[4].toNat = (f[0].toNat + f[1].toNat + f[2].toNat + f[3].toNat) % 256 then
    some (frameTemperature fp k f, frameHumidity fp k f)
  else none

/-- The samples of R149 after the release of the pin: `a` highs, then 41 pairs of `l i` lows and `h i` highs, then a low. -/
def captureSamples (a : Nat) (l h : Nat → Nat) : List Bool :=
  List.replicate a true ++
    (List.range 41).flatMap (fun i => List.replicate (l i) false ++ List.replicate (h i) true) ++ [false]

/-- The samples of a capture whose measurement `j` times out (R146, R148): each earlier measurement `i` takes `c i` samples at
its level, low for an even `i` and high for an odd one, and one at the other; measurement `j` takes 32000 at its level. -/
def timeoutSamples (j : Nat) (c : Nat → Nat) : List Bool :=
  (List.range j).flatMap (fun i => List.replicate (c i) (decide (i % 2 = 1)) ++ [decide (i % 2 = 0)]) ++
    List.replicate 32000 (decide (j % 2 = 1))

/-- The trace of R149: TRACE[2i] = l i − 1, TRACE[2i+1] = h i − 1. -/
def runTrace (l h : Nat → Nat) : Vector Count 82 :=
  Vector.ofFn (fun j => BitVec.ofNat 16 ((if j.val % 2 = 0 then l (j.val / 2) else h (j.val / 2)) - 1))

/-- Two's-complement reading of a 16-bit word from its low and high byte, as the spec words it (R6). -/
def signedWord (lo hi : Byte) : Int :=
  if lo.toNat + 256 * hi.toNat > 32767 then (lo.toNat + 256 * hi.toNat : Int) - 65536 else lo.toNat + 256 * hi.toNat

/-- The signed 32-bit range of R228. -/
def FitsS32 (z : Int) : Prop := -2147483648 ≤ z ∧ z ≤ 2147483647

/-- The unsigned 32-bit range of R228. -/
def FitsU32 (z : Int) : Prop := 0 ≤ z ∧ z ≤ 4294967295

/-- The coefficients of the datasheet's example (V7). -/
def exampleBmpCoef : BmpCoef := ⟨408, -72, -14383, 32741, 32757, 23153, 6190, 4, -32768, -8711, 2868⟩

/-- An outcome without what the next command rebuilds. -/
def forgetOutcome : Host.Outcome State Fault Refusal → Host.Outcome State Fault Refusal
  | .next s => .next s.forget
  | .fault r => .fault r
  | .refused r => .refused r

end Sys2Proof.Machine
end

