-- ==== Sys2Proof/Certificates/Slice0/Obligations.lean ====
section
/-! DEFINITION. The statements about the machine. Each docstring names the rules it rests on. Where a statement gives
exec's next state whole, every field it does not name is unchanged: that is its frame. In every statement the event record
`history`, the delay timer's microseconds, the answers in `env` and the phase as the unit of a step are the model's forms
(log entries 20, 18, 6, 7); where more of a statement is the model's choice its docstring names the log entry. -/

open Sys2Proof Sys2Proof.Machine

/-! ## Encoding -/

/-- R90, R91, R92: the decoder gives back every command the encoder writes, with every operand, and the encoded word is the
only word that decodes to the command. -/
def Obligations.DecodeInvertsEncode : Prop := ∀ (c : CmdWord) (i : Instr), decode c = .command i ↔ c = encode i

/-- R93: the illegal words, field by field. -/
def Obligations.IllegalWordsByField : Prop :=
  ∀ c : CmdWord, (∃ r, decode c = .rejected r) ↔
    (c.extractLsb' 12 4).toNat = 0 ∨ 0xA ≤ (c.extractLsb' 12 4).toNat ∨
    ((c.extractLsb' 12 4).toNat = 1 ∧ c.extractLsb' 0 12 ≠ 0) ∨
    (2 ≤ (c.extractLsb' 12 4).toNat ∧ (c.extractLsb' 12 4).toNat ≤ 6 ∧ c.extractLsb' 5 7 ≠ 0) ∨
    ((c.extractLsb' 12 4).toNat = 7 ∧ (c.extractLsb' 9 3 ≠ 0 ∨ c.extractLsb' 5 3 ≠ 0)) ∨
    (8 ≤ (c.extractLsb' 12 4).toNat ∧ (c.extractLsb' 12 4).toNat ≤ 9 ∧ c.extractLsb' 7 5 ≠ 0)

/-- R94's worked encodings. -/
def Obligations.WorkedEncodingsDecode : Prop :=
  decode 0x1000 = .command .gpioInit ∧ decode 0x3011 = .command (.setOutput 17) ∧
  decode 0x6004 = .command (.readPin 4) ∧ decode 0x7104 = .command (.readOneWire .type22 4) ∧
  decode 0x7016 = .command (.readOneWire .type11 22) ∧ decode 0x8076 = .command (.readBme280 0x76) ∧
  decode 0x9077 = .command (.readBmp180 0x77) ∧
  decode 0x0000 = .rejected .noSuchOpcode ∧ decode 0x1001 = .rejected .mustBeZero ∧
  decode 0x2020 = .rejected .mustBeZero ∧ decode 0x7204 = .rejected .mustBeZero ∧
  decode 0x8080 = .rejected .mustBeZero ∧ decode 0xA000 = .rejected .noSuchOpcode

/-- R92, R95: a command written out assembles to that command; what each written form assembles to, with the ranges of its
operands (pins 0..31, addresses 0..127, the five kind names); the well-formed written commands are those that assemble. -/
def Obligations.SourceSyntaxAssembles : Prop :=
  (∀ i : Instr, i.toSource.assemble = some i) ∧
  SourceCommand.gpioInit.assemble = some .gpioInit ∧
  (∀ p : Nat,
    (SourceCommand.setInput p).assemble = (if p ≤ 31 then some (.setInput (BitVec.ofNat 5 p)) else none) ∧
    (SourceCommand.setOutput p).assemble = (if p ≤ 31 then some (.setOutput (BitVec.ofNat 5 p)) else none) ∧
    (SourceCommand.setHigh p).assemble = (if p ≤ 31 then some (.setHigh (BitVec.ofNat 5 p)) else none) ∧
    (SourceCommand.setLow p).assemble = (if p ≤ 31 then some (.setLow (BitVec.ofNat 5 p)) else none) ∧
    (SourceCommand.readPin p).assemble = (if p ≤ 31 then some (.readPin (BitVec.ofNat 5 p)) else none)) ∧
  (∀ (k : String) (p : Nat), (SourceCommand.readOneWire k p).assemble =
    (if p ≤ 31 ∧ k ∈ ["11", "DHT11"] then some (.readOneWire .type11 (BitVec.ofNat 5 p))
     else if p ≤ 31 ∧ k ∈ ["22", "DHT22", "AM2302"] then some (.readOneWire .type22 (BitVec.ofNat 5 p))
     else none)) ∧
  (∀ a : Nat,
    (SourceCommand.readBme280 a).assemble = (if a ≤ 127 then some (.readBme280 (BitVec.ofNat 7 a)) else none) ∧
    (SourceCommand.readBmp180 a).assemble = (if a ≤ 127 then some (.readBmp180 (BitVec.ofNat 7 a)) else none)) ∧
  (∀ c : SourceCommand, c.wellFormed = c.assemble.isSome)

/-! ## A step -/

/-- A host write of CMD while BUSY = 0 and HALT = 0 runs the decoded command; in flight the sequencer runs the command PH
belongs to; a word placed by `withFetchWord` is run by the very next step (R23, R26). The list of inputs and `withFetchWord`
are the model's (log entries 5, 26). -/
def Obligations.StepRunsTheDecodedCommand : Prop :=
  (∀ (s : State) (v : Word) (rest : List Input) (i : Instr),
    s.inputs = .hostWrite 0 v :: rest → s.busy = false → s.halt = false → decode (v.setWidth 16) = .command i →
    step s = exec i { s with inputs := rest }) ∧
  (∀ (s : State) (i : Instr), s.inFlight = some i →
    (s.inputs = [] → step s = exec i s) ∧
    (∀ rest, s.inputs = .tick :: rest → step s = exec i { s with inputs := rest }) ∧
    (∀ rest, s.inputs = .awaitIdle :: rest → s.busy = true → step s = exec i s)) ∧
  (∀ (s : State) (w : CmdWord) (i : Instr), decode w = .command i →
    step (s.withFetchWord 16 w.toNat) = exec i { s with ph := .idle, busy := false, halt := false })

/-- R26 (1), R275: a CMD write while BUSY = 1 is refused; so is a command handed over while another is in flight
(the model's reading, log entry 8). -/
def Obligations.CommandInFlightIsRefused : Prop :=
  (∀ (s : State) (v : Word) (rest : List Input), s.inputs = .hostWrite 0 v :: rest → s.busy = true →
    step s = .refused .commandWhileBusy) ∧
  (∀ (s : State) (i j : Instr), s.inFlight = some j → j ≠ i → exec i s = .refused .commandWhileBusy)

/-- R26 (2), R267: with HALT = 1 a CMD write of any word changes nothing. R25: a host write to a read-only register has no
effect. R290: at IDLE with nothing asked of it the sequencer stays where it is. -/
def Obligations.InputsWithoutEffect : Prop :=
  (∀ (s : State) (v : Word) (rest : List Input), s.inputs = .hostWrite 0 v :: rest → s.busy = false → s.halt = true →
    step s = .next { s with inputs := rest }) ∧
  (∀ (s : State) (n : BitVec 3) (v : Word) (rest : List Input), s.inputs = .hostWrite n v :: rest → n ≠ 0 →
    step s = .next { s with inputs := rest }) ∧
  (∀ s : State, s.inputs = [] → s.ph = .idle → step s = .next s)

/-- R93, R261, R26: an illegal word ends at once with IllegalCommand; no device and no agent is touched. That it clears the
last results too is the model's reading (log entry 24). -/
def Obligations.IllegalWordFails : Prop :=
  ∀ (s : State) (v : Word) (rest : List Input) (r : Reject), s.FlagInv →
    s.inputs = .hostWrite 0 v :: rest → s.busy = false → s.halt = false → decode (v.setWidth 16) = .rejected r →
    step s = .next { s.failedWith 10 with inputs := rest }

/-- R27: STATUS, field by field, at any time; its reset value; it is read only. -/
def Obligations.StatusShowsTheFlags : Prop :=
  (∀ (s : State) (rest : List Input), s.inputs = .hostRead 1 :: rest →
    ∃ w : Word, step s = .next { s with inputs := rest, hostLog := (1, w) :: s.hostLog } ∧
      w.getLsbD 0 = s.busy ∧ w.getLsbD 1 = s.done ∧ (w.getLsbD 2 = true ↔ s.err ≠ 0) ∧ w.getLsbD 3 = s.ginit ∧
      w.getLsbD 4 = s.crit ∧ w.getLsbD 5 = s.halt ∧ ∀ j, 6 ≤ j → w.getLsbD j = false) ∧
  statusWord State.reset = 0 ∧
  (∀ (s : State) (v : Word) (rest : List Input), s.inputs = .hostWrite 1 v :: rest →
    step s = .next { s with inputs := rest })

/-- R25, R28 to R31: what the other host registers present while BUSY = 0; a register without a value, CMD, and every
register but STATUS while BUSY = 1 answer a draw (the model's free value, log entry 22); a host read changes no state of the
block. -/
def Obligations.HostReadsPresentTheRegisters : Prop :=
  ∀ (s : State) (n : BitVec 3) (rest : List Input), s.inputs = .hostRead n :: rest → n ≠ 1 →
    ∃ (shown : Option Word) (w : Word) (e : Env),
      step s = .next { s with inputs := rest, env := e, hostLog := (n, w) :: s.hostLog } ∧
      (∀ x, shown = some x → w = x ∧ e = s.env) ∧
      (shown = none → w = Config.freeHostWord s.env.draws ∧ e = { s.env with draws := s.env.draws + 1 }) ∧
      (s.busy = true ∨ n = 0 → shown = none) ∧
      (s.busy = false →
        (n = 2 → shown = some (s.err.setWidth 32)) ∧
        (n = 3 → shown = s.resT.map Config.params.resRepr) ∧
        (n = 4 → shown = s.resH.map Config.params.resRepr) ∧
        (n = 5 → shown = s.resP.map Config.params.resRepr) ∧
        (n = 6 → shown = s.pinval) ∧
        (n = 7 → shown = s.chipid.map (fun b => b.setWidth 32)))

/-! ## GPIO commands -/

/-- R120: PLAT's Ok maps the window; a second GPIO_INIT after a success consults no one and changes nothing; frame: nothing
else but the common end of a command. -/
def Obligations.GpioInitMapsTheWindowOnce : Prop :=
  ∀ s : State, s.ph = .idle →
    (∀ base : Nat, s.ginit = false → nextPlat s = .ok base →
      exec .gpioInit s = .next { s.succeeded with
        gbase := base + 0x200000, ginit := true, env := s.env.drewPlat, history := .plat (.ok base) :: s.history }) ∧
    (s.ginit = true → exec .gpioInit s = .next s.succeeded)

/-- R120, R258, R259, R260, R267: each platform failure is reported with its own code and sets HALT. -/
def Obligations.GpioInitFailureHalts : Prop :=
  ∀ (s : State) (a : PlatAnswer) (c : Byte), s.ph = .idle → s.crit = false → s.ginit = false → nextPlat s = a →
    (a = .dtUnreadable ∧ c = 7 ∨ a = .devUnavailable ∧ c = 8 ∨ a = .mapFailed ∧ c = 9) →
    exec .gpioInit s = .next { s.failedWith c with
      halt := true, env := s.env.drewPlat, history := .plat a :: s.history }

/-- R121, R98, R32: SET_INPUT p reads FSEL[p div 10], clears the three bits at (p mod 10)·3, writes the word back with
every other bit as it was; frame: nothing else. -/
def Obligations.SetInputClearsTheField : Prop :=
  ∀ (s : State) (p : Pin), s.ph = .idle → s.ginit = true →
    ∃ v : Word, exec (.setInput p) s = .next { s.succeeded with
        pinr := p, gpio := { s.gpio with fsel := s.gpio.fsel.set (fselIndex p) v },
        history := .memWrite (p.toNat / 10) v :: .memRead (p.toNat / 10) s.gpio.fsel[fselIndex p] :: s.history } ∧
      ∀ j < 32, v.getLsbD j =
        (if p.toNat % 10 * 3 ≤ j ∧ j < p.toNat % 10 * 3 + 3 then false else s.gpio.fsel[fselIndex p].getLsbD j)

/-- R122, R98, R32: SET_OUTPUT p leaves the field 0b001, every other bit of the word as it was; frame: nothing else. -/
def Obligations.SetOutputWritesTheField : Prop :=
  ∀ (s : State) (p : Pin), s.ph = .idle → s.ginit = true →
    ∃ v : Word, exec (.setOutput p) s = .next { s.succeeded with
        pinr := p, gpio := { s.gpio with fsel := s.gpio.fsel.set (fselIndex p) v },
        history := .memWrite (p.toNat / 10) v :: .memRead (p.toNat / 10) s.gpio.fsel[fselIndex p] :: s.history } ∧
      ∀ j < 32, v.getLsbD j =
        (if p.toNat % 10 * 3 ≤ j ∧ j < p.toNat % 10 * 3 + 3 then decide (j = p.toNat % 10 * 3)
         else s.gpio.fsel[fselIndex p].getLsbD j)

/-- R123, R124, R99, R32: SET_HIGH p writes 1 << p to SET0 and OUT[p] becomes 1; SET_LOW p writes 1 << p to CLR0 and OUT[p]
becomes 0; no other latch changes and no read is made. -/
def Obligations.PinLevelCommandsChangeOneLatch : Prop :=
  ∀ (s : State) (p : Pin), s.ph = .idle → s.ginit = true →
    (∃ v o : Word, exec (.setHigh p) s = .next { s.succeeded with
        pinr := p, gpio := { s.gpio with out := o }, history := .memWrite 7 v :: s.history } ∧
      ∀ j < 32, v.getLsbD j = decide (j = p.toNat) ∧ o.getLsbD j = (s.gpio.out.getLsbD j || decide (j = p.toNat))) ∧
    (∃ v o : Word, exec (.setLow p) s = .next { s.succeeded with
        pinr := p, gpio := { s.gpio with out := o }, history := .memWrite 10 v :: s.history } ∧
      ∀ j < 32, v.getLsbD j = decide (j = p.toNat) ∧ o.getLsbD j = (s.gpio.out.getLsbD j && !decide (j = p.toNat)))

/-- R125, R30, R62: READ_PIN p draws one LEV0 word; PINVAL is that word masked with 1 << p, not normalised; no register of
the peripheral changes. -/
def Obligations.ReadPinMasksTheLevel : Prop :=
  ∀ (s : State) (p : Pin), s.ph = .idle → s.ginit = true →
    ∃ v : Word, exec (.readPin p) s = .next { s.succeeded with
        pinr := p, pinval := some v, env := s.env.drewLev0, history := .memRead 13 (nextLev0 s) :: s.history } ∧
      (∀ j < 32, v.getLsbD j = (decide (j = p.toNat) && (nextLev0 s).getLsbD j)) ∧
      (v ≠ 0 ↔ (nextLev0 s).getLsbD p.toNat = true)

/-- R126, R252: without GINIT a pin command ends with GpioNotInitialized before any device access. -/
def Obligations.PinCommandsNeedInit : Prop :=
  ∀ (s : State) (p : Pin), s.ph = .idle → s.crit = false → s.ginit = false →
    ∀ i ∈ [Instr.setInput p, .setOutput p, .setHigh p, .setLow p, .readPin p],
      exec i s = .next { s.failedWith 1 with pinr := p }

/-- R33, R300: after SET_OUTPUT the line is driven to the latch as it was; after SET_INPUT the peripheral does not drive
it. -/
def Obligations.DirectionDecidesTheDriver : Prop :=
  ∀ (s : State) (p : Pin), s.ph = .idle → s.ginit = true →
    (∃ t, exec (.setOutput p) s = .next t ∧ t.lineDriver p = .peripheral (s.gpio.out.getLsbD p.toNat)) ∧
    (∃ t, exec (.setInput p) s = .next t ∧ t.lineDriver p = .released)

/-! ## READ_ONEWIRE -/

/-- R26, R92, R140, R180, R220: a compound command is accepted at IDLE: the last outcome is cleared, BUSY is set, its
operands are latched, PH is its first phase, nothing else changes. That the accept is a step of its own is the model's choice
(log entries 7, 28). -/
def Obligations.CompoundCommandsAreAccepted : Prop :=
  ∀ s : State, s.ph = .idle →
    (∀ (k : Kind) (p : Pin), exec (.readOneWire k p) s = .next { s.succeeded with
      busy := true, done := false, ph := .ow0, kindr := k, pinr := p }) ∧
    (∀ a : Addr7, exec (.readBme280 a) s = .next { s.succeeded with
      busy := true, done := false, ph := .b1, addr7 := a }) ∧
    (∀ a : Addr7, exec (.readBmp180 a) s = .next { s.succeeded with
      busy := true, done := false, ph := .p1, addr7 := a })

/-- R141: OW0 tests GINIT and touches nothing but ERR and DONE when it fails. -/
def Obligations.OneWireChecksInitFirst : Prop :=
  ∀ s : State, s.ph = .ow0 → s.FlagInv →
    (s.ginit = true → exec (.readOneWire s.kindr s.pinr) s = .next { s with ph := .ow1a }) ∧
    (s.ginit = false → exec (.readOneWire s.kindr s.pinr) s = .next (s.failedWith 1))

/-- R142, R143, R144: OW1a makes the pin an output, drives it high, waits 500 ms; OW1b drives it low and waits 20 ms; OW2
raises CRIT first and then makes the pin an input; the other nine fields and the other latches stay. -/
def Obligations.OneWireRequest : Prop :=
  (∀ s : State, s.ph = .ow1a →
    ∃ v o : Word, exec (.readOneWire s.kindr s.pinr) s = .next { s with
        ph := .ow1b, delay := 500000, gpio := { fsel := s.gpio.fsel.set (fselIndex s.pinr) v, out := o },
        history := .wait 500000 :: .memWrite 7 (1#32 <<< s.pinr.toNat) :: .memWrite (s.pinr.toNat / 10) v ::
          .memRead (s.pinr.toNat / 10) s.gpio.fsel[fselIndex s.pinr] :: s.history } ∧
      (∀ j < 32, v.getLsbD j =
        (if s.pinr.toNat % 10 * 3 ≤ j ∧ j < s.pinr.toNat % 10 * 3 + 3 then decide (j = s.pinr.toNat % 10 * 3)
         else s.gpio.fsel[fselIndex s.pinr].getLsbD j)) ∧
      ∀ j < 32, o.getLsbD j = (s.gpio.out.getLsbD j || decide (j = s.pinr.toNat))) ∧
  (∀ s : State, s.ph = .ow1b →
    ∃ o : Word, exec (.readOneWire s.kindr s.pinr) s = .next { s with
        ph := .ow2, delay := 20000, gpio := { s.gpio with out := o },
        history := .wait 20000 :: .memWrite 10 (1#32 <<< s.pinr.toNat) :: s.history } ∧
      ∀ j < 32, o.getLsbD j = (s.gpio.out.getLsbD j && !decide (j = s.pinr.toNat))) ∧
  (∀ s : State, s.ph = .ow2 → s.crit = false →
    ∃ v : Word, exec (.readOneWire s.kindr s.pinr) s = .next { s with
        ph := .ow3, crit := true, gpio := { s.gpio with fsel := s.gpio.fsel.set (fselIndex s.pinr) v },
        history := .memWrite (s.pinr.toNat / 10) v ::
          .memRead (s.pinr.toNat / 10) s.gpio.fsel[fselIndex s.pinr] :: .crit true :: s.history } ∧
      ∀ j < 32, v.getLsbD j =
        (if s.pinr.toNat % 10 * 3 ≤ j ∧ j < s.pinr.toNat % 10 * 3 + 3 then false
         else s.gpio.fsel[fselIndex s.pinr].getLsbD j))

/-- R145, R146: `SpinWhile(p, L)` counts the polls at level L; the poll that sees the other level is consumed and not
counted; 32000 polls at L are a timeout; every poll is one fresh LEV0 read. -/
def Obligations.SpinWhileCountsPolls : Prop :=
  ∀ (s : State) (p : Pin) (level : Bool) (run rest : List Word),
    (∀ w ∈ run, w.getLsbD p.toNat = level) →
    (∀ w : Word, s.env.lev0 = run ++ w :: rest → w.getLsbD p.toNat ≠ level → run.length < 32000 →
      spinWhile p level s = (.ok (BitVec.ofNat 16 run.length), { s with
        env := { s.env with lev0 := rest }, ow := { s.ow with cnt := BitVec.ofNat 16 run.length },
        history := .memRead 13 w :: (run.reverse.map (fun x => Event.memRead 13 x) ++ s.history) })) ∧
    (s.env.lev0 = run ++ rest → run.length = 32000 →
      spinWhile p level s = (.timeout, { s with
        env := { s.env with lev0 := rest }, ow := { s.ow with cnt := 32000 },
        history := run.reverse.map (fun x => Event.memRead 13 x) ++ s.history }))

/-- R147, R253: OW3 waits while the line is high; the count is discarded; a timeout is AckTimeout and clears CRIT. -/
def Obligations.OneWireAcknowledge : Prop :=
  ∀ (s : State) (run rest : List Word), s.ph = .ow3 → s.crit = true →
    (∀ w ∈ run, w.getLsbD s.pinr.toNat = true) →
    (∀ w : Word, s.env.lev0 = run ++ w :: rest → w.getLsbD s.pinr.toNat = false → run.length < 32000 →
      exec (.readOneWire s.kindr s.pinr) s = .next { s with
        ph := .ow4, env := { s.env with lev0 := rest }, ow := { s.ow with cnt := BitVec.ofNat 16 run.length },
        history := .memRead 13 w :: (run.reverse.map (fun x => Event.memRead 13 x) ++ s.history) }) ∧
    (s.env.lev0 = run ++ rest → run.length = 32000 →
      exec (.readOneWire s.kindr s.pinr) s = .next (State.abortedWith 2 { s with
        env := { s.env with lev0 := rest }, ow := { s.ow with cnt := 32000 },
        history := run.reverse.map (fun x => Event.memRead 13 x) ++ s.history }))

/-- R149: in terms of run lengths, the capture completes with TRACE[2i] = l i − 1 and TRACE[2i+1] = h i − 1, having
consumed exactly those samples; the registers outside the capture are unchanged. -/
def Obligations.CaptureRecordsRunLengths : Prop :=
  ∀ (s : State) (a : Nat) (l h : Nat → Nat) (words rest : List Word),
    s.ph = .ow3 → a ≤ 31999 → (∀ i < 41, 1 ≤ l i ∧ l i ≤ 32000 ∧ 1 ≤ h i ∧ h i ≤ 32000) →
    words.map (fun w => w.getLsbD s.pinr.toNat) = captureSamples a l h → s.env.lev0 = words ++ rest →
    ∃ t u : State, exec (.readOneWire s.kindr s.pinr) s = .next t ∧ t.ph = .ow4 ∧
      exec (.readOneWire s.kindr s.pinr) t = .next u ∧
      u = { s with
        ph := .ow5, ow := u.ow, env := { s.env with lev0 := rest },
        history := words.reverse.map (fun x => Event.memRead 13 x) ++ s.history } ∧
      ∀ i < 41, (u.ow.trace.getD (2 * i) 0).toNat = l i - 1 ∧ (u.ow.trace.getD (2 * i + 1) 0).toNat = h i - 1

/-- R148, R254, R265: whichever of the 82 measurements of OW4 times out, the earlier ones having ended in time: the command
ends at once with PulseTimeout and CRIT released, no later sample is taken, TRACE keeps the counts measured so far and 0 in
the other places, IDX is the measurement, and nothing else changes. A line stuck low is measurement 0, a line stuck high is
measurement 1 after a count of 0. -/
def Obligations.StuckLineIsPulseTimeout : Prop :=
  ∀ (s : State) (j : Nat) (c : Nat → Nat) (words rest : List Word), s.ph = .ow4 → s.crit = true → j < 82 →
    (∀ i < j, c i ≤ 31999) →
    words.map (fun w => w.getLsbD s.pinr.toNat) = timeoutSamples j c → s.env.lev0 = words ++ rest →
    ∃ (idx : BitVec 7) (trace : Vector Count 82),
      exec (.readOneWire s.kindr s.pinr) s = .next (State.abortedWith 3 { s with
        ow := { s.ow with cnt := 32000, idx := idx, trace := trace }, env := { s.env with lev0 := rest },
        history := words.reverse.map (fun x => Event.memRead 13 x) ++ s.history }) ∧
      idx.toNat = j ∧ (∀ i < j, (trace.getD i 0).toNat = c i) ∧ ∀ i, j ≤ i → trace.getD i 0 = 0

/-- R150, R151, R101: OW5 sums the forty low counts of pairs 1..40, takes the floor of their mean, and fills the frame:
data bit k is bit 7 − (k mod 8) of FRAME[k div 8], 1 exactly when the high count of pair k+1 is at least THR. -/
def Obligations.ThresholdAndBits : Prop :=
  ∀ s : State, s.ph = .ow5 → s.TraceInv →
    ∃ (acc : BitVec 21) (thr : Count) (frame : Vector Byte 5),
      exec (.readOneWire s.kindr s.pinr) s = .next { s with
        ph := .ow6, ow := { s.ow with acc := acc, thr := thr, frame := frame } } ∧
      acc.toNat = ((List.range 40).map (fun i => (s.ow.trace.getD (2 * (i + 1)) 0).toNat)).sum ∧
      thr.toNat = acc.toNat / 40 ∧
      ∀ k < 40, (frame.getD (k / 8) 0).getLsbD (7 - k % 8) =
        decide (thr.toNat ≤ (s.ow.trace.getD (2 * (k + 1) + 1) 0).toNat)

/-- R150, R100: the preamble pair has no part in the decoding. -/
def Obligations.PreambleIsExcluded : Prop :=
  ∀ (fp : Rat → Rat) (k : Kind) (t u : Vector Count 82), (∀ j, 2 ≤ j → t.getD j 0 = u.getD j 0) →
    owDecode fp k t = owDecode fp k u

/-- R152, R153, R255: OW6 compares FRAME[4] with the sum of the other four bytes mod 256; a mismatch is ChecksumMismatch,
a match goes on to OW7; either way CRIT is released. -/
def Obligations.ChecksumDecides : Prop :=
  ∀ s : State, s.ph = .ow6 → s.crit = true →
    (s.ow.frame[4].toNat ≠
        (s.ow.frame[0].toNat + s.ow.frame[1].toNat + s.ow.frame[2].toNat + s.ow.frame[3].toNat) % 256 →
      exec (.readOneWire s.kindr s.pinr) s = .next (s.abortedWith 4)) ∧
    (s.ow.frame[4].toNat =
        (s.ow.frame[0].toNat + s.ow.frame[1].toNat + s.ow.frame[2].toNat + s.ow.frame[3].toNat) % 256 →
      exec (.readOneWire s.kindr s.pinr) s = .next { s with
        ph := .ow7, crit := false, history := .crit false :: s.history })

/-- R154, R155, R29: the 22-type conversion, rounded by FP, and the 11-type conversion (bytes 0 and 2, whole units,
unsigned); neither humidity is clamped. That FP rounds the negation too is the model's choice (log entry 10). -/
def Obligations.OneWireConversion : Prop :=
  (∀ s : State, s.ph = .ow7 → s.kindr = .type22 →
    ∃ hum10 mag10 : Nat,
      exec (.readOneWire .type22 s.pinr) s = .next { s with
        ph := .idle, busy := false, done := true, resP := none,
        resH := some (.rational (Config.params.fp ((hum10 : Rat) / 10))),
        resT := some (.rational
          (if s.ow.frame[2].toNat ≥ 128 then Config.params.fp (-(Config.params.fp ((mag10 : Rat) / 10)))
           else Config.params.fp ((mag10 : Rat) / 10))) } ∧
      hum10 = s.ow.frame[0].toNat * 256 + s.ow.frame[1].toNat ∧
      mag10 = s.ow.frame[2].toNat % 128 * 256 + s.ow.frame[3].toNat) ∧
  (∀ s : State, s.ph = .ow7 → s.kindr = .type11 →
    exec (.readOneWire .type11 s.pinr) s = .next { s with
      ph := .idle, busy := false, done := true, resP := none,
      resH := some (.rational (s.ow.frame[0].toNat : Nat)),
      resT := some (.rational (s.ow.frame[2].toNat : Nat)) })

/-- R156: OW5 to OW7 are a pure function of the kind and the trace: three steps end the command with the decoded values,
or with ChecksumMismatch and no results. -/
def Obligations.DecodeIsAFunctionOfTheTrace : Prop :=
  ∀ s : State, s.FlagInv → s.inputs = [] → s.ph = .ow5 →
    ∃ t : State, Host.Core.run core 3 s = .next t ∧ t.Ended ∧ t.gpio = s.gpio ∧ t.env = s.env ∧
      match owDecode Config.params.fp s.kindr s.ow.trace with
      | some (temp, hum) => t.err = 0 ∧ t.resT = some (.rational temp) ∧ t.resH = some (.rational hum) ∧ t.resP = none
      | none => t.err = 4 ∧ t.noResults = true

/-! ## I2C access phases -/

/-- R181, R221, R256: opening the bus: Fail is BusOpenFailure, with nothing sent to any slave. -/
def Obligations.BusOpenDecides : Prop :=
  ∀ s : State, s.FlagInv → ∀ first second : Phase, ∀ i : Instr,
    (first = .b1 ∧ second = .b2 ∧ i = .readBme280 s.addr7 ∨ first = .p1 ∧ second = .p2 ∧ i = .readBmp180 s.addr7) →
    s.ph = first →
    (nextOpen s = true → exec i s = .next { s with
      ph := second, env := s.env.drewOpen, history := .i2cOpen s.addr7 true :: s.history }) ∧
    (nextOpen s = false → exec i s = .next { s.failedWith 5 with
      env := s.env.drewOpen, history := .i2cOpen s.addr7 false :: s.history })

/-- R182, R222, R31: the chip-ID read: the byte goes to CHIPID and is compared with nothing; a short read fails only where
CHIPID_MANDATORY, else CHIPID keeps what it held. -/
def Obligations.ChipIdIsDiagnostic : Prop :=
  ∀ s : State, s.FlagInv → ∀ here next : Phase, ∀ i : Instr,
    (here = .b2 ∧ next = .b3 ∧ i = .readBme280 s.addr7 ∨ here = .p2 ∧ next = .p3 ∧ i = .readBmp180 s.addr7) →
    s.ph = here →
    (∀ b : List Byte, nextRead 1 s = some b →
      exec i s = .next { s.afterRead 0xD0 1 with ph := next, chipid := some (b.getD 0 0) }) ∧
    (nextRead 1 s = none →
      exec i s = .next (if Config.params.chipidMandatory then (s.afterRead 0xD0 1).failedWith 6
        else { s.afterRead 0xD0 1 with ph := next }))

/-- R64, R257, R184, R264: a short mandatory read ends the command with IoError, the second read of B4 too; what was sent
or read before it is not undone. -/
def Obligations.ShortReadIsIoError : Prop :=
  ∀ s : State, s.FlagInv →
    (s.ph = .b3 → nextRead 24 s = none → exec (.readBme280 s.addr7) s = .next ((s.afterRead 0x88 24).failedWith 6)) ∧
    (s.ph = .b4 → nextRead 1 s = none → exec (.readBme280 s.addr7) s = .next ((s.afterRead 0xA1 1).failedWith 6)) ∧
    (∀ a, s.ph = .b4 → nextRead 1 s = some a → nextRead 7 (s.afterRead 0xA1 1) = none →
      exec (.readBme280 s.addr7) s = .next (State.failedWith 6 { (s.afterRead 0xA1 1).afterRead 0xE1 7 with
        bme := { s.bme with coef := { s.bme.coef with h1 := (a.getD 0 0).toNat } } })) ∧
    (s.ph = .b6 → nextRead 8 s = none → exec (.readBme280 s.addr7) s = .next ((s.afterRead 0xF7 8).failedWith 6)) ∧
    (s.ph = .p3 → nextRead 22 s = none → exec (.readBmp180 s.addr7) s = .next ((s.afterRead 0xAA 22).failedWith 6)) ∧
    (s.ph = .p4 → nextRead 2 s = none → exec (.readBmp180 s.addr7) s =
      .next (((s.afterRequest 0xF4 0x2E 4500).afterRead 0xF6 2).failedWith 6)) ∧
    (s.ph = .p5 → nextRead 3 s = none → exec (.readBmp180 s.addr7) s =
      .next (((s.afterRequest 0xF4 0x34 5000).afterRead 0xF6 3).failedWith 6))

/-- R183, R184, R104, R105, R65: B3 reads 24 bytes at 0x88, little-endian, T1 and P1 unsigned, the ten others signed; B4 reads
0xA1 (1 byte), then 0xE1 (7 bytes), H2 and H6 signed, H4 and H5 packed in nibbles and unsigned (BME_H45_SIGNED = false). -/
def Obligations.BmeCalibrationAssembly : Prop :=
  (∀ (s : State) (c : List Byte), s.ph = .b3 → nextRead 24 s = some c →
    exec (.readBme280 s.addr7) s = .next { s.afterRead 0x88 24 with
      ph := .b4
      bme := { s.bme with coef := { s.bme.coef with
        t1 := ((c.getD 0 0).toNat + 256 * (c.getD 1 0).toNat : Nat)
        t2 := signedWord (c.getD 2 0) (c.getD 3 0)
        t3 := signedWord (c.getD 4 0) (c.getD 5 0)
        p1 := ((c.getD 6 0).toNat + 256 * (c.getD 7 0).toNat : Nat)
        p2 := signedWord (c.getD 8 0) (c.getD 9 0)
        p3 := signedWord (c.getD 10 0) (c.getD 11 0)
        p4 := signedWord (c.getD 12 0) (c.getD 13 0)
        p5 := signedWord (c.getD 14 0) (c.getD 15 0)
        p6 := signedWord (c.getD 16 0) (c.getD 17 0)
        p7 := signedWord (c.getD 18 0) (c.getD 19 0)
        p8 := signedWord (c.getD 20 0) (c.getD 21 0)
        p9 := signedWord (c.getD 22 0) (c.getD 23 0) } } }) ∧
  (∀ (s : State) (a h : List Byte), s.ph = .b4 → nextRead 1 s = some a → nextRead 7 (s.afterRead 0xA1 1) = some h →
    exec (.readBme280 s.addr7) s = .next { (s.afterRead 0xA1 1).afterRead 0xE1 7 with
      ph := .b5
      bme := { s.bme with coef := { s.bme.coef with
        h1 := (a.getD 0 0).toNat
        h2 := signedWord (h.getD 0 0) (h.getD 1 0)
        h3 := (h.getD 2 0).toNat
        h4 := ((h.getD 3 0).toNat * 16 + (h.getD 4 0).toNat % 16 : Nat)
        h5 := ((h.getD 5 0).toNat * 16 + (h.getD 4 0).toNat / 16 : Nat)
        h6 := if (h.getD 6 0).toNat > 127 then ((h.getD 6 0).toNat : Int) - 256 else (h.getD 6 0).toNat } } })

/-- R185, R107, R186, R106: B5 writes 0xF2, 0xF4, 0xF5 in that order, then waits 4.5 ms, and cannot fail; B6 reads 8 bytes at
0xF7: two 20-bit readings without the low nibble of XLSB, one 16-bit reading. -/
def Obligations.BmeConfigurationAndData : Prop :=
  (∀ s : State, s.ph = .b5 →
    exec (.readBme280 s.addr7) s = .next { s with
      ph := .b6, delay := 4500
      sensors := ((s.sensors.write (sensorKey s.addr7 0xF2) Config.params.bmeValCtrlHum).write
        (sensorKey s.addr7 0xF4) Config.params.bmeValCtrlMeas).write (sensorKey s.addr7 0xF5) Config.params.bmeValConfig
      history := .wait 4500 :: .i2cWrite s.addr7 0xF5 Config.params.bmeValConfig ::
        .i2cWrite s.addr7 0xF4 Config.params.bmeValCtrlMeas ::
        .i2cWrite s.addr7 0xF2 Config.params.bmeValCtrlHum :: s.history }) ∧
  (∀ (s : State) (d : List Byte), s.ph = .b6 → nextRead 8 s = some d →
    ∃ (adcP adcT : BitVec 20) (adcH : BitVec 16),
      exec (.readBme280 s.addr7) s = .next { s.afterRead 0xF7 8 with
        ph := .b7, bme := { s.bme with adcP := adcP, adcT := adcT, adcH := adcH } } ∧
      adcP.toNat = ((d.getD 0 0).toNat * 65536 + (d.getD 1 0).toNat * 256 + (d.getD 2 0).toNat) / 16 ∧
      adcT.toNat = ((d.getD 3 0).toNat * 65536 + (d.getD 4 0).toNat * 256 + (d.getD 5 0).toNat) / 16 ∧
      adcH.toNat = (d.getD 6 0).toNat * 256 + (d.getD 7 0).toNat)

/-- R223, R108, R66: P3 reads 22 bytes at 0xAA, big-endian: AC4, AC5, AC6 unsigned, the eight others signed. -/
def Obligations.BmpCalibrationAssembly : Prop :=
  ∀ (s : State) (c : List Byte), s.ph = .p3 → nextRead 22 s = some c →
    exec (.readBmp180 s.addr7) s = .next { s.afterRead 0xAA 22 with
      ph := .p4
      bmp := { s.bmp with coef :=
        { ac1 := signedWord (c.getD 1 0) (c.getD 0 0)
          ac2 := signedWord (c.getD 3 0) (c.getD 2 0)
          ac3 := signedWord (c.getD 5 0) (c.getD 4 0)
          ac4 := (256 * (c.getD 6 0).toNat + (c.getD 7 0).toNat : Nat)
          ac5 := (256 * (c.getD 8 0).toNat + (c.getD 9 0).toNat : Nat)
          ac6 := (256 * (c.getD 10 0).toNat + (c.getD 11 0).toNat : Nat)
          b1 := signedWord (c.getD 13 0) (c.getD 12 0)
          b2 := signedWord (c.getD 15 0) (c.getD 14 0)
          mb := signedWord (c.getD 17 0) (c.getD 16 0)
          mc := signedWord (c.getD 19 0) (c.getD 18 0)
          md := signedWord (c.getD 21 0) (c.getD 20 0) } } }

/-- R224, R225, R109: P4 and P5 write the control byte to 0xF4, wait, read 2 or 3 bytes at 0xF6, MSB first; the third byte
of the pressure is shifted out. -/
def Obligations.BmpMeasurements : Prop :=
  (∀ (s : State) (b : List Byte), s.ph = .p4 → nextRead 2 s = some b →
    ∃ ut : BitVec 16, exec (.readBmp180 s.addr7) s =
        .next { (s.afterRequest 0xF4 0x2E 4500).afterRead 0xF6 2 with ph := .p5, bmp := { s.bmp with ut := ut } } ∧
      ut.toNat = 256 * (b.getD 0 0).toNat + (b.getD 1 0).toNat) ∧
  (∀ (s : State) (q : List Byte), s.ph = .p5 → nextRead 3 s = some q →
    ∃ up : BitVec 16, exec (.readBmp180 s.addr7) s =
        .next { (s.afterRequest 0xF4 0x34 5000).afterRead 0xF6 3 with ph := .p6, bmp := { s.bmp with up := up } } ∧
      up.toNat = 256 * (q.getD 0 0).toNat + (q.getD 1 0).toNat)

/-! ## Compensation -/

/-- R187, R188, R191: B7 commits the three results together when the divisor is not 0, and ends with ArithFault and no
result when it is. The formulas are those of `BmeFormulas`, rounded by FP; which operations FP rounds and what a failure
leaves in the temporaries are the model's choice (log entries 10, 14). -/
def Obligations.BmeCommitIsAllOrNothing : Prop :=
  ∀ (s : State) (fp : Rat → Rat) (k : BmeCoef) (var1 var2 v1 divisor p raw : Rat) (tFine : Int),
    s.ph = .b7 → s.FlagInv → fp = Config.params.fp → k = s.bme.coef →
    var1 = bmeVar1 fp k s.bme.adcT.toNat → var2 = bmeVar2 fp k s.bme.adcT.toNat → tFine = bmeTFine fp var1 var2 →
    v1 = bmePressV1 fp tFine → divisor = bmePressDivisor fp k v1 →
    p = bmePressP fp s.bme.adcP.toNat (bmePressV2 fp k v1) divisor →
    raw = bmeHumidityRaw fp k tFine s.bme.adcH.toNat →
    exec (.readBme280 s.addr7) s = .next
      (if divisor = 0 then { s.failedWith 11 with
        bme := { s.bme with tmp := { s.bme.tmp with var1 := var1, var2 := var2, tFine := tFine } } }
      else { s with
        ph := .idle, busy := false, done := true
        bme := { s.bme with tmp := { var1 := var1, var2 := var2, tFine := tFine, varH := raw, p := p } }
        resT := some (.rational (bmeTempC fp var1 var2))
        resP := some (.rational (bmePressPa fp k p))
        resH := some (.rational (if raw > 100 then 100 else if raw < 0 then 0 else raw)) })

/-- R187, R188, R189, R192: with FP the identity, the formulas are the spec's over the rationals. -/
def Obligations.BmeFormulas : Prop :=
  ∀ (k : BmeCoef) (adcT adcP adcH : Rat) (tFine : Int),
    bmeVar1 id k adcT = (adcT / 16384 - k.t1 / 1024) * k.t2 ∧
    bmeVar2 id k adcT = (adcT / 131072 - k.t1 / 8192) * (adcT / 131072 - k.t1 / 8192) * k.t3 ∧
    (∀ a b : Rat, bmeTempC id a b = (a + b) / 5120 ∧
      (0 ≤ a + b → bmeTFine id a b = ⌊a + b⌋) ∧ (a + b < 0 → bmeTFine id a b = ⌈a + b⌉)) ∧
    (∀ v1 : Rat, v1 = tFine / 2 - 64000 → bmePressV1 id tFine = v1 ∧
      bmePressV2 id k v1 = (v1 * v1 * k.p6 / 32768 + v1 * k.p5 * 2) / 4 + k.p4 * 65536 ∧
      bmePressDivisor id k v1 =
        (1 + (k.p3 * v1 * v1 / 524288 + k.p2 * v1) / 524288 / 32768) * k.p1) ∧
    (∀ v2 d : Rat, bmePressP id adcP v2 d = (1048576 - adcP - v2 / 4096) * 6250 / d) ∧
    (∀ p : Rat, bmePressPa id k p = p + (k.p9 * p * p / 2147483648 + p * k.p8 / 32768 + k.p7) / 16) ∧
    (∀ vh x : Rat, vh = tFine - 76800 →
      x = (adcH - (k.h4 * 64 + k.h5 / 16384 * vh)) *
        (k.h2 / 65536 * (1 + k.h6 / 67108864 * vh * (1 + k.h3 / 67108864 * vh))) →
      bmeHumidityRaw id k tFine adcH = x * (1 - k.h1 * x / 524288))

/-- R190: whatever the inputs and the rounding, a humidity the BME280 command delivers is in [0, 100]. -/
def Obligations.BmeHumidityIsClamped : Prop :=
  ∀ (s t : State) (i : Instr), exec i s = .next t → s.ph = .b7 →
    t.resH = none ∨ ∃ q : Rat, t.resH = some (.rational q) ∧ 0 ≤ q ∧ q ≤ 100

/-- R226, R228: P6. With X1, den and X2 (BMP_DIV = trunc) as the spec writes them: B5 and T10 when den is not 0 and every
intermediate is in the signed 32-bit range, else ArithFault with no result. The list of intermediates is the model's reading
of R228 (log entry 13). -/
def Obligations.BmpTemperatureCompensation : Prop :=
  ∀ (s : State) (diff x1 den x2 : Int) (fits : Prop), s.ph = .p6 → s.FlagInv →
    diff = s.bmp.ut.toNat - s.bmp.coef.ac6 → x1 = diff * s.bmp.coef.ac5 / 32768 → den = x1 + s.bmp.coef.md →
    x2 = (s.bmp.coef.mc * 2048).tdiv den →
    (fits ↔ den ≠ 0 ∧ ∀ z ∈ [diff, diff * s.bmp.coef.ac5, den, s.bmp.coef.mc * 2048, x2, x1 + x2, x1 + x2 + 8],
      FitsS32 z) →
    (fits → exec (.readBmp180 s.addr7) s = .next { s with
      ph := .p7
      bmp := { s.bmp with tmp := { s.bmp.tmp with x1 := x1, x2 := x2, b5 := x1 + x2, t10 := (x1 + x2 + 8) / 16 } } }) ∧
    (¬ fits → ∃ tmp : BmpTmp, exec (.readBmp180 s.addr7) s =
      .next { s.failedWith 11 with bmp := { s.bmp with tmp := tmp } })

/-- R227, R228: P7 with BMP_OSS = 0. With every quantity as the spec writes it: RES_P is the integer p when B4 is not 0, no
operand of an unsigned quantity is negative and every intermediate is in its 32 bits, else ArithFault with no result. The list
of intermediates is the model's reading of R228 (log entry 13). -/
def Obligations.BmpPressureCompensation : Prop :=
  ∀ (s : State) (k : BmpCoef) (b6 sq x3a b3 x1b x2b x3 b4 b7 p x1 x2 r : Int) (fits : Prop),
    s.ph = .p7 → s.FlagInv → k = s.bmp.coef →
    b6 = s.bmp.tmp.b5 - 4000 → sq = b6 * b6 / 4096 →
    x3a = k.b2 * sq / 2048 + k.ac2 * b6 / 2048 → b3 = (k.ac1 * 4 + x3a + 2) / 4 →
    x1b = k.ac3 * b6 / 8192 → x2b = k.b1 * sq / 65536 → x3 = (x1b + x2b + 2) / 4 →
    b4 = k.ac4 * (x3 + 32768) / 32768 → b7 = (s.bmp.up.toNat - b3) * 50000 →
    p = (if b7 < 0x80000000 then b7 * 2 / b4 else b7 / b4 * 2) →
    x1 = p / 256 * (p / 256) * 3038 / 65536 → x2 = -7357 * p / 65536 → r = p + (x1 + x2 + 3791) / 16 →
    (fits ↔ 0 ≤ x3 + 32768 ∧ 0 ≤ s.bmp.up.toNat - b3 ∧ b4 ≠ 0 ∧
      (∀ z ∈ [b6, b6 * b6, k.b2 * sq, k.ac2 * b6, x3a, k.ac1 * 4, k.ac1 * 4 + x3a, k.ac1 * 4 + x3a + 2,
        k.ac3 * b6, k.b1 * sq, x1b + x2b, x1b + x2b + 2, x3 + 32768, s.bmp.up.toNat - b3, p,
        p / 256 * (p / 256), p / 256 * (p / 256) * 3038, -7357 * p, x1 + x2, x1 + x2 + 3791, r], FitsS32 z) ∧
      (∀ z ∈ [k.ac4 * (x3 + 32768), b4, b7], FitsU32 z)) →
    (fits → ∃ tmp : BmpTmp, tmp.p = r ∧ tmp.b5 = s.bmp.tmp.b5 ∧ tmp.t10 = s.bmp.tmp.t10 ∧
      exec (.readBmp180 s.addr7) s = .next { s with
        ph := .idle, busy := false, done := true, resP := some (.integer r), bmp := { s.bmp with tmp := tmp } }) ∧
    (¬ fits → ∃ tmp : BmpTmp, exec (.readBmp180 s.addr7) s =
      .next { s.failedWith 11 with bmp := { s.bmp with tmp := tmp } })

/-- V7, R228: the worked example gives B5 = 2400, T10 = 150 and exactly 69964 Pa; with BMP_DIV = floor B5 is 2399 and the
pressure is the same. -/
def Obligations.BmpWorkedExample : Prop :=
  ∀ t : BmpTmp, ∃ t1 t2 u1 u2 : BmpTmp,
    runLines (temperatureLines .trunc exampleBmpCoef 27898) t = (true, t1) ∧ t1.b5 = 2400 ∧ t1.t10 = 150 ∧
    runLines (pressureLines 0 exampleBmpCoef 23843) t1 = (true, t2) ∧ t2.p = 69964 ∧
    runLines (temperatureLines .floor exampleBmpCoef 27898) t = (true, u1) ∧ u1.b5 = 2399 ∧ u1.t10 = 150 ∧
    runLines (pressureLines 0 exampleBmpCoef 23843) u1 = (true, u2) ∧ u2.p = 69964

/-! ## Whole commands -/

/-- R140 to R156, R160: READ_ONEWIRE from IDLE with GINIT, on a line of the runs of R149: ten steps end the command with
what the runs decode to, or with ChecksumMismatch; the pin is left an input with its latch 0. What it says of the field and
the latch rests on no other agent writing them (U7), the model's choice (log entry 17). -/
def Obligations.OneWireWholeCommand : Prop :=
  ∀ (s : State) (k : Kind) (p : Pin) (a : Nat) (l h : Nat → Nat) (words rest : List Word),
    s.ph = .idle → s.FlagInv → s.ginit = true → s.inputs = [] → a ≤ 31999 →
    (∀ i < 41, 1 ≤ l i ∧ l i ≤ 32000 ∧ 1 ≤ h i ∧ h i ≤ 32000) →
    words.map (fun w => w.getLsbD p.toNat) = captureSamples a l h → s.env.lev0 = words ++ rest →
    ∃ u v : State, exec (.readOneWire k p) s = .next u ∧ Host.Core.run core 9 u = .next v ∧ v.Ended ∧
      v.env = { s.env with lev0 := rest } ∧ v.sensors = s.sensors ∧ v.pinval = none ∧ v.resP = none ∧
      fselGet p v.gpio.fsel[fselIndex p] = 0b000 ∧ v.gpio.out.getLsbD p.toNat = false ∧
      match owDecode Config.params.fp k (runTrace l h) with
      | some (temp, hum) => v.err = 0 ∧ v.resT = some (.rational temp) ∧ v.resH = some (.rational hum)
      | none => v.err = 4 ∧ v.resT = none ∧ v.resH = none

/-- R220 to R227, R264: READ_BMP180 from IDLE when the bus opens and every read is full: eight steps end the command,
with the integer the lines give in RES_P and no other result, or with ArithFault. -/
def Obligations.Bmp180WholeCommand : Prop :=
  ∀ (s : State) (a : Addr7) (id : Byte) (c t q : List Byte) (opens : List Bool) (reads : List (List Byte)),
    s.ph = .idle → s.FlagInv → s.inputs = [] → c.length = 22 → t.length = 2 → q.length = 3 →
    s.env.i2cOpen = true :: opens → s.env.i2cRead = [id] :: c :: t :: q :: reads →
    ∃ u v : State, exec (.readBmp180 a) s = .next u ∧ Host.Core.run core 7 u = .next v ∧ v.Ended ∧
      v.chipid = some id ∧ v.resT = none ∧ v.resH = none ∧ v.pinval = none ∧ v.gpio = s.gpio ∧
      v.env = { s.env with i2cOpen := opens, i2cRead := reads } ∧
      ∃ t1 t2 : Bool × BmpTmp,
        t1 = runLines (temperatureLines .trunc (bmpCalib c) (bmpUt t).toNat) s.bmp.tmp ∧
        t2 = runLines (pressureLines 0 (bmpCalib c) (bmpUp q).toNat) t1.2 ∧
        (t1.1 = true → t2.1 = true → v.err = 0 ∧ v.resP = some (.integer t2.2.p)) ∧
        ((t1.1 = false ∨ t2.1 = false) → v.err = 11 ∧ v.resP = none)

/-- R180 to R192, R264: READ_BME280 from IDLE when the bus opens and every read is full: eight steps end the command; the
coefficients and the three raw readings are those of the bytes read; where the divisor of the pressure is not 0 the three
results are the formulas' (`BmeFormulas`, rounded by FP) on them, else the command ends with ArithFault and none; the sensor
has received the three configuration bytes. Which operations FP rounds is the model's choice (log entry 10). -/
def Obligations.Bme280WholeCommand : Prop :=
  ∀ (s : State) (a : Addr7) (id h1 : Byte) (c h d : List Byte) (opens : List Bool) (reads : List (List Byte)),
    s.ph = .idle → s.FlagInv → s.inputs = [] → c.length = 24 → h.length = 7 → d.length = 8 →
    s.env.i2cOpen = true :: opens → s.env.i2cRead = [id] :: c :: [h1] :: h :: d :: reads →
    ∃ u v : State, exec (.readBme280 a) s = .next u ∧ Host.Core.run core 7 u = .next v ∧ v.Ended ∧
      v.chipid = some id ∧ v.pinval = none ∧ v.gpio = s.gpio ∧
      v.env = { s.env with i2cOpen := opens, i2cRead := reads } ∧
      v.bme.coef = bmeCalibH2 h (bmeCalibH1 [h1] (bmeCalibTp c s.bme.coef)) ∧
      v.bme.adcP.toNat = ((d.getD 0 0).toNat * 65536 + (d.getD 1 0).toNat * 256 + (d.getD 2 0).toNat) / 16 ∧
      v.bme.adcT.toNat = ((d.getD 3 0).toNat * 65536 + (d.getD 4 0).toNat * 256 + (d.getD 5 0).toNat) / 16 ∧
      v.bme.adcH.toNat = (d.getD 6 0).toNat * 256 + (d.getD 7 0).toNat ∧
      v.sensors.read (sensorKey a 0xF2) = some Config.params.bmeValCtrlHum ∧
      v.sensors.read (sensorKey a 0xF4) = some Config.params.bmeValCtrlMeas ∧
      v.sensors.read (sensorKey a 0xF5) = some Config.params.bmeValConfig ∧
      ∀ (fp : Rat → Rat) (k : BmeCoef) (var1 var2 v1 divisor p raw : Rat) (tFine : Int),
        fp = Config.params.fp → k = v.bme.coef →
        var1 = bmeVar1 fp k v.bme.adcT.toNat → var2 = bmeVar2 fp k v.bme.adcT.toNat → tFine = bmeTFine fp var1 var2 →
        v1 = bmePressV1 fp tFine → divisor = bmePressDivisor fp k v1 →
        p = bmePressP fp v.bme.adcP.toNat (bmePressV2 fp k v1) divisor →
        raw = bmeHumidityRaw fp k tFine v.bme.adcH.toNat →
        if divisor = 0 then v.err = 11 ∧ v.noResults = true
        else v.err = 0 ∧ v.resT = some (.rational (bmeTempC fp var1 var2)) ∧
          v.resP = some (.rational (bmePressPa fp k p)) ∧
          v.resH = some (.rational (if raw > 100 then 100 else if raw < 0 then 0 else raw))

/-- R299, R23: every command ends: from any state at IDLE, the command and then at most nine steps of the sequencer
bring DONE, whatever the environment answers. That every `Wait` and every access of the line and the bus is answered is the
model's choice (log entries 18, 19): the fairness premise of R299. -/
def Obligations.EveryCommandEnds : Prop :=
  ∀ (i : Instr) (s : State), s.ph = .idle → s.FlagInv → s.inputs = [] →
    ∃ t, exec i s = .next t ∧ ∃ n ≤ 9, ∃ u, Host.Core.run core n t = .next u ∧ u.Ended

/-- R45, R157, R44: the registers and buffers a command rebuilds carry nothing into it: from two states at IDLE that differ
in them only, every run gives outcomes that differ in them only. No choice of their reset values can be observed. -/
def Obligations.StaleRegistersAreUnobservable : Prop :=
  ∀ (s t : State), s.ph = .idle → s.FlagInv → s.forget = t.forget →
    ∀ n, forgetOutcome (Host.Core.run core n s) = forgetOutcome (Host.Core.run core n t)

/-! ## Failures, invariants, isolation -/

/-- R110, R251: the codes of the failure kinds, which are distinguishable. R265: what ending in failure does, in one step,
and what it leaves: nothing is rolled back. -/
def Obligations.FailureEntry : Prop :=
  ([Failure.gpioNotInitialized, .ackTimeout, .pulseTimeout, .checksumMismatch, .busOpenFailure, .ioError,
    .initDeviceTreeUnreadable, .initDeviceUnavailable, .initMapFailed, .illegalCommand, .arithFault].map
      (fun k => k.code.toNat) = [1, 2, 3, 4, 5, 6, 7, 8, 9, 10, 11] ∧
  ∀ j k : Failure, j.code = k.code → j = k) ∧
  (∀ (k : Failure) (s : State), fail k s =
    { s with
      crit := false, err := k.code, resT := none, resH := none, resP := none, pinval := none, busy := false,
      done := true, ph := .idle
      halt := s.halt || decide (k = .initDeviceTreeUnreadable ∨ k = .initDeviceUnavailable ∨ k = .initMapFailed)
      history := if s.crit then .crit false :: s.history else s.history })

/-- R24, R26, R265, R266, R267: the invariant of the flags and host registers is kept by every step. -/
def Obligations.StepKeepsFlagInv : Prop := ∀ s t : State, s.FlagInv → step s = .next t → t.FlagInv

/-- R24, R144, R153, R265, R297: after every step from a state of the invariant, CRIT = 1 only with BUSY = 1 and in OW2..OW6,
CRIT = 0 whenever DONE = 1 or PH = IDLE, and no STATUS shows DONE and CRIT together. OW2 raises it, OW3 to OW5 keep it unless
the command ends there, and OW6 and every `fail` clear it. -/
def Obligations.CritIsAlwaysReleased : Prop :=
  (∀ s t : State, s.FlagInv → step s = .next t →
    (t.crit = true → t.busy = true ∧ t.ph ∈ [Phase.ow2, .ow3, .ow4, .ow5, .ow6]) ∧
    (t.ph = .idle → t.crit = false) ∧ (t.done = true → t.crit = false) ∧
    ((statusWord t).getLsbD 1 && (statusWord t).getLsbD 4) = false) ∧
  (∀ s t : State, exec (.readOneWire s.kindr s.pinr) s = .next t →
    (s.ph = .ow2 → t.ph = .ow3 ∧ t.crit = true) ∧
    (s.ph ∈ [Phase.ow3, .ow4, .ow5] → s.crit = true → (t.ph = .idle ↔ t.crit = false)) ∧
    (s.ph = .ow6 → t.crit = false)) ∧
  (∀ (k : Failure) (s : State), (fail k s).crit = false ∧ (fail k s).done = true ∧ (fail k s).ph = .idle)

/-- The sensors' register space (R60) keeps its canonical form, the model's (log entry 4), under every step. -/
def Obligations.StepKeepsMemInv : Prop := ∀ s t : State, s.MemInv → step s = .next t → t.MemInv

/-- R34, R146: every count of a completed capture stays in 0..31999 under every step. -/
def Obligations.StepKeepsTraceInv : Prop := ∀ s t : State, s.TraceInv → step s = .next t → t.TraceInv

/-- R160: from the release on, the pin's field is input and its latch 0; every step keeps it, and a one-wire command that
fails in OW3, OW4 or OW6 leaves both so. It rests on no other agent writing FSEL or OUT (U7), the model's choice (log
entry 17). -/
def Obligations.StepKeepsReleaseInv : Prop :=
  (∀ s t : State, s.ReleaseInv → step s = .next t → t.ReleaseInv) ∧
  (∀ s t : State, s.ReleaseInv → s.ph.released = true → exec (.readOneWire s.kindr s.pinr) s = .next t →
    fselGet s.pinr t.gpio.fsel[fselIndex s.pinr] = fselInput ∧ t.gpio.out.getLsbD s.pinr.toNat = false)

/-- R44: the reset values the spec gives, and that the invariants hold there. -/
def Obligations.ResetState : Prop :=
  State.reset.ph = .idle ∧ State.reset.busy = false ∧ State.reset.done = false ∧ State.reset.ginit = false ∧
  State.reset.crit = false ∧ State.reset.halt = false ∧ State.reset.err = 0 ∧ statusWord State.reset = 0 ∧
  State.reset.noResults = true ∧ State.reset.chipid = none ∧
  State.reset.FlagInv ∧ State.reset.MemInv ∧ State.reset.TraceInv ∧ State.reset.ReleaseInv

/-- R290, R24: reset between commands puts the block at its reset values and touches no device; only reset clears GINIT or
HALT; in mid-command the model has no reset (log entry 9). Where R44 gives a working register or a buffer no value, the value
it has in `State.reset` is the model's (log entries 1, 2); so is it that the inputs, the answers still to come, the event
history and the host log survive (log entries 9, 20). -/
def Obligations.OnlyResetClearsInitAndHalt : Prop :=
  (∀ (s : State) (rest : List Input), s.inputs = .reset :: rest → s.busy = false →
    step s = .next { State.reset with
      gpio := s.gpio, sensors := s.sensors, env := s.env, inputs := rest, history := s.history,
      hostLog := s.hostLog }) ∧
  (∀ (s : State) (rest : List Input), s.inputs = .reset :: rest → s.busy = true → step s = .refused .resetInFlight) ∧
  (∀ s t : State, step s = .next t → (∀ rest, s.inputs ≠ .reset :: rest) →
    (s.ginit = true → t.ginit = true) ∧ (s.halt = true → t.halt = true) ∧ (s.ginit = true → t.gbase = s.gbase))

/-- R60, R180, R220: the frame of the two families. A step of an I2C command leaves the GPIO registers, the answers of LINE
and PLAT, CRIT, GINIT, HALT, GBASE and the one-wire registers as they were; a step of any other command leaves the sensor
registers, the bus's answers, CHIPID, ADDR7, the I2C buffers, the host's log and the inputs as they were. -/
def Obligations.CommandFamiliesAreIsolated : Prop :=
  (∀ (s t : State) (i : Instr), (∃ a, i = .readBme280 a ∨ i = .readBmp180 a) → s.FlagInv → exec i s = .next t →
    t.gpio = s.gpio ∧ t.env.lev0 = s.env.lev0 ∧ t.env.plat = s.env.plat ∧ t.crit = s.crit ∧ t.ginit = s.ginit ∧
    t.halt = s.halt ∧ t.gbase = s.gbase ∧ t.ow = s.ow) ∧
  (∀ (s t : State) (i : Instr), (∀ a, i ≠ .readBme280 a ∧ i ≠ .readBmp180 a) → exec i s = .next t →
    t.sensors = s.sensors ∧ t.env.i2cOpen = s.env.i2cOpen ∧ t.env.i2cRead = s.env.i2cRead ∧ t.chipid = s.chipid ∧
    t.addr7 = s.addr7 ∧ t.bme = s.bme ∧ t.bmp = s.bmp ∧ t.hostLog = s.hostLog ∧ t.inputs = s.inputs)

/-- R31: CHIPID changes only by a chip-ID read, phase B2 or P2, or by reset. -/
def Obligations.ChipIdIsKept : Prop :=
  ∀ s t : State, step s = .next t → t.chipid ≠ s.chipid →
    s.ph = .b2 ∨ s.ph = .p2 ∨ ∃ rest, s.inputs = .reset :: rest

/-- R74, R77: the event history only grows: what happened stays happened, in order. That it survives the input reset, on
which the spec is silent, is the model's choice (log entry 20). -/
def Obligations.HistoryOnlyGrows : Prop :=
  ∀ s t : State, step s = .next t → ∃ events, t.history = events ++ s.history

/-- R63: a byte written to a sensor register is the byte held there, and no other register changes. That the model holds the
bytes written is its choice (log entry 4). -/
def Obligations.SensorWriteIsLocal : Prop :=
  ∀ (s : State) (r v : Byte) (a : Addr7) (q : Byte),
    (i2cWrite r v s).sensors.read (sensorKey a q) =
      if a = s.addr7 ∧ q = r then some v else s.sensors.read (sensorKey a q)
end

