-- ==== Sys2Proof/Laws/Decode.lean ====
section
/-! SUPPORT. The decoder as a chain of tests, and the opcode map's rows. -/

namespace Sys2Proof

/-- No word selects two rows of the opcode map (`30_encoding.md` R91: OPC differs). -/
theorem opcodeTable_disjoint :
    opcodeTable.Pairwise (fun r q => r.mask &&& q.mask &&& (r.pattern ^^^ q.pattern) ≠ 0) := by
  simp only [opcodeTable, List.pairwise_cons, List.mem_cons, List.not_mem_nil, or_false]
  simp

/-- decode tests the rows in the order of R91. -/
theorem decode_eq (c : CmdWord) : decode c =
    (if c &&& 0xFFFF = 0x1000 then .command .gpioInit
    else if c &&& 0xFFE0 = 0x2000 then .command (.setInput (pinField c))
    else if c &&& 0xFFE0 = 0x3000 then .command (.setOutput (pinField c))
    else if c &&& 0xFFE0 = 0x4000 then .command (.setHigh (pinField c))
    else if c &&& 0xFFE0 = 0x5000 then .command (.setLow (pinField c))
    else if c &&& 0xFFE0 = 0x6000 then .command (.readPin (pinField c))
    else if c &&& 0xFEE0 = 0x7000 then .command (.readOneWire (kindField c) (pinField c))
    else if c &&& 0xFF80 = 0x8000 then .command (.readBme280 (addrField c))
    else if c &&& 0xFF80 = 0x9000 then .command (.readBmp180 (addrField c))
    else .rejected (rejectReason c)) := by
  unfold decode
  simp only [opcodeTable, List.find?_cons, OpcodeRow.selects, List.find?_nil]
  have yes : ∀ {p : Prop} [Decidable p], p → decide p = true := fun h => decide_eq_true h
  have no : ∀ {p : Prop} [Decidable p], ¬ p → decide p = false := fun h => decide_eq_false h
  by_cases h1 : c &&& 0xFFFF = 0x1000
  · simp only [if_pos h1, yes h1]
  simp only [if_neg h1, no h1]
  by_cases h2 : c &&& 0xFFE0 = 0x2000
  · simp only [if_pos h2, yes h2]
  simp only [if_neg h2, no h2]
  by_cases h3 : c &&& 0xFFE0 = 0x3000
  · simp only [if_pos h3, yes h3]
  simp only [if_neg h3, no h3]
  by_cases h4 : c &&& 0xFFE0 = 0x4000
  · simp only [if_pos h4, yes h4]
  simp only [if_neg h4, no h4]
  by_cases h5 : c &&& 0xFFE0 = 0x5000
  · simp only [if_pos h5, yes h5]
  simp only [if_neg h5, no h5]
  by_cases h6 : c &&& 0xFFE0 = 0x6000
  · simp only [if_pos h6, yes h6]
  simp only [if_neg h6, no h6]
  by_cases h7 : c &&& 0xFEE0 = 0x7000
  · simp only [if_pos h7, yes h7]
  simp only [if_neg h7, no h7]
  by_cases h8 : c &&& 0xFF80 = 0x8000
  · simp only [if_pos h8, yes h8]
  simp only [if_neg h8, no h8]
  by_cases h9 : c &&& 0xFF80 = 0x9000
  · simp only [if_pos h9, yes h9]
  simp only [if_neg h9, no h9]

end Sys2Proof
end

