-- ==== Sys2Proof/Laws/Memory.lean ====
section
/-! SUPPORT. The laws of the sensors' register space: read after write, and the canonical form. -/

namespace Sys2Proof.Machine

theorem Memory.read_write_same (m : Memory) (k : Nat) (b : Byte) : (m.write k b).read k = some b := by
  induction m with
  | nil => simp [Memory.write, Memory.read]
  | cons c rest ih =>
    obtain ⟨j, x⟩ := c
    simp only [Memory.write]
    split_ifs with h1 h2
    · simp [Memory.read]
    · simp [Memory.read]
    · simp only [Memory.read, if_neg (Ne.symm h2), ih]

theorem Memory.read_write_other (m : Memory) {k q : Nat} (b : Byte) (h : q ≠ k) :
    (m.write k b).read q = m.read q := by
  induction m with
  | nil => simp [Memory.write, Memory.read, Ne.symm h]
  | cons c rest ih =>
    obtain ⟨j, x⟩ := c
    simp only [Memory.write]
    split_ifs with h1 h2
    · simp [Memory.read, Ne.symm h]
    · subst h2; simp [Memory.read, Ne.symm h]
    · simp only [Memory.read, ih]

/-- Every cell of the memory a write leaves is the written one or was there. -/
theorem Memory.mem_write {m : Memory} {k : Nat} {b : Byte} {c : Host.Cell} (h : c ∈ m.write k b) :
    c = (k, b) ∨ c ∈ m := by
  induction m with
  | nil => left; simpa [Memory.write] using h
  | cons d rest ih =>
    obtain ⟨j, x⟩ := d
    simp only [Memory.write] at h
    split_ifs at h with h1 h2
    · simpa using h
    · subst h2
      rcases List.mem_cons.1 h with rfl | h
      · exact .inl rfl
      · exact .inr (List.mem_cons_of_mem _ h)
    · rcases List.mem_cons.1 h with rfl | h
      · exact .inr (List.mem_cons_self)
      · exact (ih h).imp_right (List.mem_cons_of_mem _)

theorem Memory.write_wf {m : Memory} {k : Nat} (b : Byte) (hk : k < 128 * 256) (h : m.wf = true) :
    (m.write k b).wf = true := by
  induction m with
  | nil => simp [Memory.write, Memory.wf, hk]
  | cons c rest ih =>
    obtain ⟨j, x⟩ := c
    simp only [Memory.wf, Bool.and_eq_true, decide_eq_true_eq, List.all_eq_true] at h
    obtain ⟨⟨hj, hall⟩, hrest⟩ := h
    simp only [Memory.write]
    split_ifs with h1 h2
    · simp only [Memory.wf, Bool.and_eq_true, decide_eq_true_eq, List.all_eq_true, List.mem_cons]
      refine ⟨⟨hk, ?_⟩, ⟨hj, hall⟩, hrest⟩
      rintro c (rfl | hc)
      · exact h1
      · exact h1.trans (hall c hc)
    · subst h2
      simp only [Memory.wf, Bool.and_eq_true, decide_eq_true_eq, List.all_eq_true]
      exact ⟨⟨hj, hall⟩, hrest⟩
    · simp only [Memory.wf, Bool.and_eq_true, decide_eq_true_eq, List.all_eq_true]
      refine ⟨⟨hj, ?_⟩, ih hrest⟩
      intro c hc
      rcases Memory.mem_write hc with rfl | hc
      · show j < k
        omega
      · exact hall c hc

/-- A key is in the space, whatever the address and the register. -/
theorem sensorKey_lt (a : Addr7) (r : Byte) : sensorKey a r < 128 * 256 := by
  have := a.isLt; have := r.isLt
  simp only [sensorKey]
  omega

/-- Two registers share a key only if they are one register. -/
theorem sensorKey_inj {a b : Addr7} {r q : Byte} (h : sensorKey a r = sensorKey b q) : a = b ∧ r = q := by
  have := r.isLt; have := q.isLt
  simp only [sensorKey] at h
  exact ⟨BitVec.eq_of_toNat_eq (by omega), BitVec.eq_of_toNat_eq (by omega)⟩

end Sys2Proof.Machine
end

