-- ==== Sys2Proof/Laws/State.lean ====
section
/-! SUPPORT. One lemma per field of State per named update, true by rfl, so that no proof unfolds an update. -/

namespace Sys2Proof.Machine

variable (s : State)

@[simp] theorem emit_ph (e : Event) : (emit e s).ph = s.ph := rfl
@[simp] theorem emit_busy (e : Event) : (emit e s).busy = s.busy := rfl
@[simp] theorem emit_done (e : Event) : (emit e s).done = s.done := rfl
@[simp] theorem emit_ginit (e : Event) : (emit e s).ginit = s.ginit := rfl
@[simp] theorem emit_crit (e : Event) : (emit e s).crit = s.crit := rfl
@[simp] theorem emit_halt (e : Event) : (emit e s).halt = s.halt := rfl
@[simp] theorem emit_pinr (e : Event) : (emit e s).pinr = s.pinr := rfl
@[simp] theorem emit_kindr (e : Event) : (emit e s).kindr = s.kindr := rfl
@[simp] theorem emit_addr7 (e : Event) : (emit e s).addr7 = s.addr7 := rfl
@[simp] theorem emit_gbase (e : Event) : (emit e s).gbase = s.gbase := rfl
@[simp] theorem emit_delay (e : Event) : (emit e s).delay = s.delay := rfl
@[simp] theorem emit_err (e : Event) : (emit e s).err = s.err := rfl
@[simp] theorem emit_resT (e : Event) : (emit e s).resT = s.resT := rfl
@[simp] theorem emit_resH (e : Event) : (emit e s).resH = s.resH := rfl
@[simp] theorem emit_resP (e : Event) : (emit e s).resP = s.resP := rfl
@[simp] theorem emit_pinval (e : Event) : (emit e s).pinval = s.pinval := rfl
@[simp] theorem emit_chipid (e : Event) : (emit e s).chipid = s.chipid := rfl
@[simp] theorem emit_ow (e : Event) : (emit e s).ow = s.ow := rfl
@[simp] theorem emit_bme (e : Event) : (emit e s).bme = s.bme := rfl
@[simp] theorem emit_bmp (e : Event) : (emit e s).bmp = s.bmp := rfl
@[simp] theorem emit_gpio (e : Event) : (emit e s).gpio = s.gpio := rfl
@[simp] theorem emit_sensors (e : Event) : (emit e s).sensors = s.sensors := rfl
@[simp] theorem emit_env (e : Event) : (emit e s).env = s.env := rfl
@[simp] theorem emit_inputs (e : Event) : (emit e s).inputs = s.inputs := rfl
@[simp] theorem emit_history (e : Event) : (emit e s).history = e :: s.history := rfl
@[simp] theorem emit_hostLog (e : Event) : (emit e s).hostLog = s.hostLog := rfl

@[simp] theorem gotoPhase_ph (p : Phase) : (gotoPhase p s).ph = p := rfl
@[simp] theorem gotoPhase_busy (p : Phase) : (gotoPhase p s).busy = s.busy := rfl
@[simp] theorem gotoPhase_done (p : Phase) : (gotoPhase p s).done = s.done := rfl
@[simp] theorem gotoPhase_ginit (p : Phase) : (gotoPhase p s).ginit = s.ginit := rfl
@[simp] theorem gotoPhase_crit (p : Phase) : (gotoPhase p s).crit = s.crit := rfl
@[simp] theorem gotoPhase_halt (p : Phase) : (gotoPhase p s).halt = s.halt := rfl
@[simp] theorem gotoPhase_pinr (p : Phase) : (gotoPhase p s).pinr = s.pinr := rfl
@[simp] theorem gotoPhase_kindr (p : Phase) : (gotoPhase p s).kindr = s.kindr := rfl
@[simp] theorem gotoPhase_addr7 (p : Phase) : (gotoPhase p s).addr7 = s.addr7 := rfl
@[simp] theorem gotoPhase_gbase (p : Phase) : (gotoPhase p s).gbase = s.gbase := rfl
@[simp] theorem gotoPhase_delay (p : Phase) : (gotoPhase p s).delay = s.delay := rfl
@[simp] theorem gotoPhase_err (p : Phase) : (gotoPhase p s).err = s.err := rfl
@[simp] theorem gotoPhase_resT (p : Phase) : (gotoPhase p s).resT = s.resT := rfl
@[simp] theorem gotoPhase_resH (p : Phase) : (gotoPhase p s).resH = s.resH := rfl
@[simp] theorem gotoPhase_resP (p : Phase) : (gotoPhase p s).resP = s.resP := rfl
@[simp] theorem gotoPhase_pinval (p : Phase) : (gotoPhase p s).pinval = s.pinval := rfl
@[simp] theorem gotoPhase_chipid (p : Phase) : (gotoPhase p s).chipid = s.chipid := rfl
@[simp] theorem gotoPhase_ow (p : Phase) : (gotoPhase p s).ow = s.ow := rfl
@[simp] theorem gotoPhase_bme (p : Phase) : (gotoPhase p s).bme = s.bme := rfl
@[simp] theorem gotoPhase_bmp (p : Phase) : (gotoPhase p s).bmp = s.bmp := rfl
@[simp] theorem gotoPhase_gpio (p : Phase) : (gotoPhase p s).gpio = s.gpio := rfl
@[simp] theorem gotoPhase_sensors (p : Phase) : (gotoPhase p s).sensors = s.sensors := rfl
@[simp] theorem gotoPhase_env (p : Phase) : (gotoPhase p s).env = s.env := rfl
@[simp] theorem gotoPhase_inputs (p : Phase) : (gotoPhase p s).inputs = s.inputs := rfl
@[simp] theorem gotoPhase_history (p : Phase) : (gotoPhase p s).history = s.history := rfl
@[simp] theorem gotoPhase_hostLog (p : Phase) : (gotoPhase p s).hostLog = s.hostLog := rfl

@[simp] theorem setCrit_ph (b : Bool) : (setCrit b s).ph = s.ph := rfl
@[simp] theorem setCrit_busy (b : Bool) : (setCrit b s).busy = s.busy := rfl
@[simp] theorem setCrit_done (b : Bool) : (setCrit b s).done = s.done := rfl
@[simp] theorem setCrit_ginit (b : Bool) : (setCrit b s).ginit = s.ginit := rfl
@[simp] theorem setCrit_crit (b : Bool) : (setCrit b s).crit = b := rfl
@[simp] theorem setCrit_halt (b : Bool) : (setCrit b s).halt = s.halt := rfl
@[simp] theorem setCrit_pinr (b : Bool) : (setCrit b s).pinr = s.pinr := rfl
@[simp] theorem setCrit_kindr (b : Bool) : (setCrit b s).kindr = s.kindr := rfl
@[simp] theorem setCrit_addr7 (b : Bool) : (setCrit b s).addr7 = s.addr7 := rfl
@[simp] theorem setCrit_gbase (b : Bool) : (setCrit b s).gbase = s.gbase := rfl
@[simp] theorem setCrit_delay (b : Bool) : (setCrit b s).delay = s.delay := rfl
@[simp] theorem setCrit_err (b : Bool) : (setCrit b s).err = s.err := rfl
@[simp] theorem setCrit_resT (b : Bool) : (setCrit b s).resT = s.resT := rfl
@[simp] theorem setCrit_resH (b : Bool) : (setCrit b s).resH = s.resH := rfl
@[simp] theorem setCrit_resP (b : Bool) : (setCrit b s).resP = s.resP := rfl
@[simp] theorem setCrit_pinval (b : Bool) : (setCrit b s).pinval = s.pinval := rfl
@[simp] theorem setCrit_chipid (b : Bool) : (setCrit b s).chipid = s.chipid := rfl
@[simp] theorem setCrit_ow (b : Bool) : (setCrit b s).ow = s.ow := rfl
@[simp] theorem setCrit_bme (b : Bool) : (setCrit b s).bme = s.bme := rfl
@[simp] theorem setCrit_bmp (b : Bool) : (setCrit b s).bmp = s.bmp := rfl
@[simp] theorem setCrit_gpio (b : Bool) : (setCrit b s).gpio = s.gpio := rfl
@[simp] theorem setCrit_sensors (b : Bool) : (setCrit b s).sensors = s.sensors := rfl
@[simp] theorem setCrit_env (b : Bool) : (setCrit b s).env = s.env := rfl
@[simp] theorem setCrit_inputs (b : Bool) : (setCrit b s).inputs = s.inputs := rfl
@[simp] theorem setCrit_history (b : Bool) : (setCrit b s).history = if s.crit = b then s.history else .crit b :: s.history := rfl
@[simp] theorem setCrit_hostLog (b : Bool) : (setCrit b s).hostLog = s.hostLog := rfl

@[simp] theorem accept_ph : (accept s).ph = s.ph := rfl
@[simp] theorem accept_busy : (accept s).busy = true := rfl
@[simp] theorem accept_done : (accept s).done = false := rfl
@[simp] theorem accept_ginit : (accept s).ginit = s.ginit := rfl
@[simp] theorem accept_crit : (accept s).crit = s.crit := rfl
@[simp] theorem accept_halt : (accept s).halt = s.halt := rfl
@[simp] theorem accept_pinr : (accept s).pinr = s.pinr := rfl
@[simp] theorem accept_kindr : (accept s).kindr = s.kindr := rfl
@[simp] theorem accept_addr7 : (accept s).addr7 = s.addr7 := rfl
@[simp] theorem accept_gbase : (accept s).gbase = s.gbase := rfl
@[simp] theorem accept_delay : (accept s).delay = s.delay := rfl
@[simp] theorem accept_err : (accept s).err = 0 := rfl
@[simp] theorem accept_resT : (accept s).resT = none := rfl
@[simp] theorem accept_resH : (accept s).resH = none := rfl
@[simp] theorem accept_resP : (accept s).resP = none := rfl
@[simp] theorem accept_pinval : (accept s).pinval = none := rfl
@[simp] theorem accept_chipid : (accept s).chipid = s.chipid := rfl
@[simp] theorem accept_ow : (accept s).ow = s.ow := rfl
@[simp] theorem accept_bme : (accept s).bme = s.bme := rfl
@[simp] theorem accept_bmp : (accept s).bmp = s.bmp := rfl
@[simp] theorem accept_gpio : (accept s).gpio = s.gpio := rfl
@[simp] theorem accept_sensors : (accept s).sensors = s.sensors := rfl
@[simp] theorem accept_env : (accept s).env = s.env := rfl
@[simp] theorem accept_inputs : (accept s).inputs = s.inputs := rfl
@[simp] theorem accept_history : (accept s).history = s.history := rfl
@[simp] theorem accept_hostLog : (accept s).hostLog = s.hostLog := rfl

@[simp] theorem fail_ph (k : Failure) : (fail k s).ph = .idle := rfl
@[simp] theorem fail_busy (k : Failure) : (fail k s).busy = false := rfl
@[simp] theorem fail_done (k : Failure) : (fail k s).done = true := rfl
@[simp] theorem fail_ginit (k : Failure) : (fail k s).ginit = s.ginit := rfl
@[simp] theorem fail_crit (k : Failure) : (fail k s).crit = false := rfl
@[simp] theorem fail_halt (k : Failure) : (fail k s).halt = (s.halt || k.halts) := rfl
@[simp] theorem fail_pinr (k : Failure) : (fail k s).pinr = s.pinr := rfl
@[simp] theorem fail_kindr (k : Failure) : (fail k s).kindr = s.kindr := rfl
@[simp] theorem fail_addr7 (k : Failure) : (fail k s).addr7 = s.addr7 := rfl
@[simp] theorem fail_gbase (k : Failure) : (fail k s).gbase = s.gbase := rfl
@[simp] theorem fail_delay (k : Failure) : (fail k s).delay = s.delay := rfl
@[simp] theorem fail_err (k : Failure) : (fail k s).err = k.code := rfl
@[simp] theorem fail_resT (k : Failure) : (fail k s).resT = none := rfl
@[simp] theorem fail_resH (k : Failure) : (fail k s).resH = none := rfl
@[simp] theorem fail_resP (k : Failure) : (fail k s).resP = none := rfl
@[simp] theorem fail_pinval (k : Failure) : (fail k s).pinval = none := rfl
@[simp] theorem fail_chipid (k : Failure) : (fail k s).chipid = s.chipid := rfl
@[simp] theorem fail_ow (k : Failure) : (fail k s).ow = s.ow := rfl
@[simp] theorem fail_bme (k : Failure) : (fail k s).bme = s.bme := rfl
@[simp] theorem fail_bmp (k : Failure) : (fail k s).bmp = s.bmp := rfl
@[simp] theorem fail_gpio (k : Failure) : (fail k s).gpio = s.gpio := rfl
@[simp] theorem fail_sensors (k : Failure) : (fail k s).sensors = s.sensors := rfl
@[simp] theorem fail_env (k : Failure) : (fail k s).env = s.env := rfl
@[simp] theorem fail_inputs (k : Failure) : (fail k s).inputs = s.inputs := rfl
@[simp] theorem fail_history (k : Failure) : (fail k s).history = if s.crit = false then s.history else .crit false :: s.history := rfl
@[simp] theorem fail_hostLog (k : Failure) : (fail k s).hostLog = s.hostLog := rfl

@[simp] theorem finish_ph : (finish s).ph = .idle := rfl
@[simp] theorem finish_busy : (finish s).busy = false := rfl
@[simp] theorem finish_done : (finish s).done = true := rfl
@[simp] theorem finish_ginit : (finish s).ginit = s.ginit := rfl
@[simp] theorem finish_crit : (finish s).crit = s.crit := rfl
@[simp] theorem finish_halt : (finish s).halt = s.halt := rfl
@[simp] theorem finish_pinr : (finish s).pinr = s.pinr := rfl
@[simp] theorem finish_kindr : (finish s).kindr = s.kindr := rfl
@[simp] theorem finish_addr7 : (finish s).addr7 = s.addr7 := rfl
@[simp] theorem finish_gbase : (finish s).gbase = s.gbase := rfl
@[simp] theorem finish_delay : (finish s).delay = s.delay := rfl
@[simp] theorem finish_err : (finish s).err = s.err := rfl
@[simp] theorem finish_resT : (finish s).resT = s.resT := rfl
@[simp] theorem finish_resH : (finish s).resH = s.resH := rfl
@[simp] theorem finish_resP : (finish s).resP = s.resP := rfl
@[simp] theorem finish_pinval : (finish s).pinval = s.pinval := rfl
@[simp] theorem finish_chipid : (finish s).chipid = s.chipid := rfl
@[simp] theorem finish_ow : (finish s).ow = s.ow := rfl
@[simp] theorem finish_bme : (finish s).bme = s.bme := rfl
@[simp] theorem finish_bmp : (finish s).bmp = s.bmp := rfl
@[simp] theorem finish_gpio : (finish s).gpio = s.gpio := rfl
@[simp] theorem finish_sensors : (finish s).sensors = s.sensors := rfl
@[simp] theorem finish_env : (finish s).env = s.env := rfl
@[simp] theorem finish_inputs : (finish s).inputs = s.inputs := rfl
@[simp] theorem finish_history : (finish s).history = s.history := rfl
@[simp] theorem finish_hostLog : (finish s).hostLog = s.hostLog := rfl

@[simp] theorem wait_ph (us : Nat) : (wait us s).ph = s.ph := rfl
@[simp] theorem wait_busy (us : Nat) : (wait us s).busy = s.busy := rfl
@[simp] theorem wait_done (us : Nat) : (wait us s).done = s.done := rfl
@[simp] theorem wait_ginit (us : Nat) : (wait us s).ginit = s.ginit := rfl
@[simp] theorem wait_crit (us : Nat) : (wait us s).crit = s.crit := rfl
@[simp] theorem wait_halt (us : Nat) : (wait us s).halt = s.halt := rfl
@[simp] theorem wait_pinr (us : Nat) : (wait us s).pinr = s.pinr := rfl
@[simp] theorem wait_kindr (us : Nat) : (wait us s).kindr = s.kindr := rfl
@[simp] theorem wait_addr7 (us : Nat) : (wait us s).addr7 = s.addr7 := rfl
@[simp] theorem wait_gbase (us : Nat) : (wait us s).gbase = s.gbase := rfl
@[simp] theorem wait_delay (us : Nat) : (wait us s).delay = us := rfl
@[simp] theorem wait_err (us : Nat) : (wait us s).err = s.err := rfl
@[simp] theorem wait_resT (us : Nat) : (wait us s).resT = s.resT := rfl
@[simp] theorem wait_resH (us : Nat) : (wait us s).resH = s.resH := rfl
@[simp] theorem wait_resP (us : Nat) : (wait us s).resP = s.resP := rfl
@[simp] theorem wait_pinval (us : Nat) : (wait us s).pinval = s.pinval := rfl
@[simp] theorem wait_chipid (us : Nat) : (wait us s).chipid = s.chipid := rfl
@[simp] theorem wait_ow (us : Nat) : (wait us s).ow = s.ow := rfl
@[simp] theorem wait_bme (us : Nat) : (wait us s).bme = s.bme := rfl
@[simp] theorem wait_bmp (us : Nat) : (wait us s).bmp = s.bmp := rfl
@[simp] theorem wait_gpio (us : Nat) : (wait us s).gpio = s.gpio := rfl
@[simp] theorem wait_sensors (us : Nat) : (wait us s).sensors = s.sensors := rfl
@[simp] theorem wait_env (us : Nat) : (wait us s).env = s.env := rfl
@[simp] theorem wait_inputs (us : Nat) : (wait us s).inputs = s.inputs := rfl
@[simp] theorem wait_history (us : Nat) : (wait us s).history = .wait us :: s.history := rfl
@[simp] theorem wait_hostLog (us : Nat) : (wait us s).hostLog = s.hostLog := rfl

@[simp] theorem i2cWrite_ph (r v : Byte) : (i2cWrite r v s).ph = s.ph := rfl
@[simp] theorem i2cWrite_busy (r v : Byte) : (i2cWrite r v s).busy = s.busy := rfl
@[simp] theorem i2cWrite_done (r v : Byte) : (i2cWrite r v s).done = s.done := rfl
@[simp] theorem i2cWrite_ginit (r v : Byte) : (i2cWrite r v s).ginit = s.ginit := rfl
@[simp] theorem i2cWrite_crit (r v : Byte) : (i2cWrite r v s).crit = s.crit := rfl
@[simp] theorem i2cWrite_halt (r v : Byte) : (i2cWrite r v s).halt = s.halt := rfl
@[simp] theorem i2cWrite_pinr (r v : Byte) : (i2cWrite r v s).pinr = s.pinr := rfl
@[simp] theorem i2cWrite_kindr (r v : Byte) : (i2cWrite r v s).kindr = s.kindr := rfl
@[simp] theorem i2cWrite_addr7 (r v : Byte) : (i2cWrite r v s).addr7 = s.addr7 := rfl
@[simp] theorem i2cWrite_gbase (r v : Byte) : (i2cWrite r v s).gbase = s.gbase := rfl
@[simp] theorem i2cWrite_delay (r v : Byte) : (i2cWrite r v s).delay = s.delay := rfl
@[simp] theorem i2cWrite_err (r v : Byte) : (i2cWrite r v s).err = s.err := rfl
@[simp] theorem i2cWrite_resT (r v : Byte) : (i2cWrite r v s).resT = s.resT := rfl
@[simp] theorem i2cWrite_resH (r v : Byte) : (i2cWrite r v s).resH = s.resH := rfl
@[simp] theorem i2cWrite_resP (r v : Byte) : (i2cWrite r v s).resP = s.resP := rfl
@[simp] theorem i2cWrite_pinval (r v : Byte) : (i2cWrite r v s).pinval = s.pinval := rfl
@[simp] theorem i2cWrite_chipid (r v : Byte) : (i2cWrite r v s).chipid = s.chipid := rfl
@[simp] theorem i2cWrite_ow (r v : Byte) : (i2cWrite r v s).ow = s.ow := rfl
@[simp] theorem i2cWrite_bme (r v : Byte) : (i2cWrite r v s).bme = s.bme := rfl
@[simp] theorem i2cWrite_bmp (r v : Byte) : (i2cWrite r v s).bmp = s.bmp := rfl
@[simp] theorem i2cWrite_gpio (r v : Byte) : (i2cWrite r v s).gpio = s.gpio := rfl
@[simp] theorem i2cWrite_sensors (r v : Byte) : (i2cWrite r v s).sensors = s.sensors.write (sensorKey s.addr7 r) v := rfl
@[simp] theorem i2cWrite_env (r v : Byte) : (i2cWrite r v s).env = s.env := rfl
@[simp] theorem i2cWrite_inputs (r v : Byte) : (i2cWrite r v s).inputs = s.inputs := rfl
@[simp] theorem i2cWrite_history (r v : Byte) : (i2cWrite r v s).history = .i2cWrite s.addr7 r v :: s.history := rfl
@[simp] theorem i2cWrite_hostLog (r v : Byte) : (i2cWrite r v s).hostLog = s.hostLog := rfl

@[simp] theorem memReadFsel_ph (n : Fin 4) : ((memReadFsel n s).2).ph = s.ph := rfl
@[simp] theorem memReadFsel_busy (n : Fin 4) : ((memReadFsel n s).2).busy = s.busy := rfl
@[simp] theorem memReadFsel_done (n : Fin 4) : ((memReadFsel n s).2).done = s.done := rfl
@[simp] theorem memReadFsel_ginit (n : Fin 4) : ((memReadFsel n s).2).ginit = s.ginit := rfl
@[simp] theorem memReadFsel_crit (n : Fin 4) : ((memReadFsel n s).2).crit = s.crit := rfl
@[simp] theorem memReadFsel_halt (n : Fin 4) : ((memReadFsel n s).2).halt = s.halt := rfl
@[simp] theorem memReadFsel_pinr (n : Fin 4) : ((memReadFsel n s).2).pinr = s.pinr := rfl
@[simp] theorem memReadFsel_kindr (n : Fin 4) : ((memReadFsel n s).2).kindr = s.kindr := rfl
@[simp] theorem memReadFsel_addr7 (n : Fin 4) : ((memReadFsel n s).2).addr7 = s.addr7 := rfl
@[simp] theorem memReadFsel_gbase (n : Fin 4) : ((memReadFsel n s).2).gbase = s.gbase := rfl
@[simp] theorem memReadFsel_delay (n : Fin 4) : ((memReadFsel n s).2).delay = s.delay := rfl
@[simp] theorem memReadFsel_err (n : Fin 4) : ((memReadFsel n s).2).err = s.err := rfl
@[simp] theorem memReadFsel_resT (n : Fin 4) : ((memReadFsel n s).2).resT = s.resT := rfl
@[simp] theorem memReadFsel_resH (n : Fin 4) : ((memReadFsel n s).2).resH = s.resH := rfl
@[simp] theorem memReadFsel_resP (n : Fin 4) : ((memReadFsel n s).2).resP = s.resP := rfl
@[simp] theorem memReadFsel_pinval (n : Fin 4) : ((memReadFsel n s).2).pinval = s.pinval := rfl
@[simp] theorem memReadFsel_chipid (n : Fin 4) : ((memReadFsel n s).2).chipid = s.chipid := rfl
@[simp] theorem memReadFsel_ow (n : Fin 4) : ((memReadFsel n s).2).ow = s.ow := rfl
@[simp] theorem memReadFsel_bme (n : Fin 4) : ((memReadFsel n s).2).bme = s.bme := rfl
@[simp] theorem memReadFsel_bmp (n : Fin 4) : ((memReadFsel n s).2).bmp = s.bmp := rfl
@[simp] theorem memReadFsel_gpio (n : Fin 4) : ((memReadFsel n s).2).gpio = s.gpio := rfl
@[simp] theorem memReadFsel_sensors (n : Fin 4) : ((memReadFsel n s).2).sensors = s.sensors := rfl
@[simp] theorem memReadFsel_env (n : Fin 4) : ((memReadFsel n s).2).env = s.env := rfl
@[simp] theorem memReadFsel_inputs (n : Fin 4) : ((memReadFsel n s).2).inputs = s.inputs := rfl
@[simp] theorem memReadFsel_history (n : Fin 4) : ((memReadFsel n s).2).history = .memRead (gpioWFsel0 + n) s.gpio.fsel[n] :: s.history := rfl
@[simp] theorem memReadFsel_hostLog (n : Fin 4) : ((memReadFsel n s).2).hostLog = s.hostLog := rfl

@[simp] theorem memWriteFsel_ph (n : Fin 4) (v : Word) : (memWriteFsel n v s).ph = s.ph := rfl
@[simp] theorem memWriteFsel_busy (n : Fin 4) (v : Word) : (memWriteFsel n v s).busy = s.busy := rfl
@[simp] theorem memWriteFsel_done (n : Fin 4) (v : Word) : (memWriteFsel n v s).done = s.done := rfl
@[simp] theorem memWriteFsel_ginit (n : Fin 4) (v : Word) : (memWriteFsel n v s).ginit = s.ginit := rfl
@[simp] theorem memWriteFsel_crit (n : Fin 4) (v : Word) : (memWriteFsel n v s).crit = s.crit := rfl
@[simp] theorem memWriteFsel_halt (n : Fin 4) (v : Word) : (memWriteFsel n v s).halt = s.halt := rfl
@[simp] theorem memWriteFsel_pinr (n : Fin 4) (v : Word) : (memWriteFsel n v s).pinr = s.pinr := rfl
@[simp] theorem memWriteFsel_kindr (n : Fin 4) (v : Word) : (memWriteFsel n v s).kindr = s.kindr := rfl
@[simp] theorem memWriteFsel_addr7 (n : Fin 4) (v : Word) : (memWriteFsel n v s).addr7 = s.addr7 := rfl
@[simp] theorem memWriteFsel_gbase (n : Fin 4) (v : Word) : (memWriteFsel n v s).gbase = s.gbase := rfl
@[simp] theorem memWriteFsel_delay (n : Fin 4) (v : Word) : (memWriteFsel n v s).delay = s.delay := rfl
@[simp] theorem memWriteFsel_err (n : Fin 4) (v : Word) : (memWriteFsel n v s).err = s.err := rfl
@[simp] theorem memWriteFsel_resT (n : Fin 4) (v : Word) : (memWriteFsel n v s).resT = s.resT := rfl
@[simp] theorem memWriteFsel_resH (n : Fin 4) (v : Word) : (memWriteFsel n v s).resH = s.resH := rfl
@[simp] theorem memWriteFsel_resP (n : Fin 4) (v : Word) : (memWriteFsel n v s).resP = s.resP := rfl
@[simp] theorem memWriteFsel_pinval (n : Fin 4) (v : Word) : (memWriteFsel n v s).pinval = s.pinval := rfl
@[simp] theorem memWriteFsel_chipid (n : Fin 4) (v : Word) : (memWriteFsel n v s).chipid = s.chipid := rfl
@[simp] theorem memWriteFsel_ow (n : Fin 4) (v : Word) : (memWriteFsel n v s).ow = s.ow := rfl
@[simp] theorem memWriteFsel_bme (n : Fin 4) (v : Word) : (memWriteFsel n v s).bme = s.bme := rfl
@[simp] theorem memWriteFsel_bmp (n : Fin 4) (v : Word) : (memWriteFsel n v s).bmp = s.bmp := rfl
@[simp] theorem memWriteFsel_gpio (n : Fin 4) (v : Word) : (memWriteFsel n v s).gpio = ⟨s.gpio.fsel.set n v, s.gpio.out⟩ := rfl
@[simp] theorem memWriteFsel_sensors (n : Fin 4) (v : Word) : (memWriteFsel n v s).sensors = s.sensors := rfl
@[simp] theorem memWriteFsel_env (n : Fin 4) (v : Word) : (memWriteFsel n v s).env = s.env := rfl
@[simp] theorem memWriteFsel_inputs (n : Fin 4) (v : Word) : (memWriteFsel n v s).inputs = s.inputs := rfl
@[simp] theorem memWriteFsel_history (n : Fin 4) (v : Word) : (memWriteFsel n v s).history = .memWrite (gpioWFsel0 + n) v :: s.history := rfl
@[simp] theorem memWriteFsel_hostLog (n : Fin 4) (v : Word) : (memWriteFsel n v s).hostLog = s.hostLog := rfl

@[simp] theorem memWriteSet0_ph (v : Word) : (memWriteSet0 v s).ph = s.ph := rfl
@[simp] theorem memWriteSet0_busy (v : Word) : (memWriteSet0 v s).busy = s.busy := rfl
@[simp] theorem memWriteSet0_done (v : Word) : (memWriteSet0 v s).done = s.done := rfl
@[simp] theorem memWriteSet0_ginit (v : Word) : (memWriteSet0 v s).ginit = s.ginit := rfl
@[simp] theorem memWriteSet0_crit (v : Word) : (memWriteSet0 v s).crit = s.crit := rfl
@[simp] theorem memWriteSet0_halt (v : Word) : (memWriteSet0 v s).halt = s.halt := rfl
@[simp] theorem memWriteSet0_pinr (v : Word) : (memWriteSet0 v s).pinr = s.pinr := rfl
@[simp] theorem memWriteSet0_kindr (v : Word) : (memWriteSet0 v s).kindr = s.kindr := rfl
@[simp] theorem memWriteSet0_addr7 (v : Word) : (memWriteSet0 v s).addr7 = s.addr7 := rfl
@[simp] theorem memWriteSet0_gbase (v : Word) : (memWriteSet0 v s).gbase = s.gbase := rfl
@[simp] theorem memWriteSet0_delay (v : Word) : (memWriteSet0 v s).delay = s.delay := rfl
@[simp] theorem memWriteSet0_err (v : Word) : (memWriteSet0 v s).err = s.err := rfl
@[simp] theorem memWriteSet0_resT (v : Word) : (memWriteSet0 v s).resT = s.resT := rfl
@[simp] theorem memWriteSet0_resH (v : Word) : (memWriteSet0 v s).resH = s.resH := rfl
@[simp] theorem memWriteSet0_resP (v : Word) : (memWriteSet0 v s).resP = s.resP := rfl
@[simp] theorem memWriteSet0_pinval (v : Word) : (memWriteSet0 v s).pinval = s.pinval := rfl
@[simp] theorem memWriteSet0_chipid (v : Word) : (memWriteSet0 v s).chipid = s.chipid := rfl
@[simp] theorem memWriteSet0_ow (v : Word) : (memWriteSet0 v s).ow = s.ow := rfl
@[simp] theorem memWriteSet0_bme (v : Word) : (memWriteSet0 v s).bme = s.bme := rfl
@[simp] theorem memWriteSet0_bmp (v : Word) : (memWriteSet0 v s).bmp = s.bmp := rfl
@[simp] theorem memWriteSet0_gpio (v : Word) : (memWriteSet0 v s).gpio = ⟨s.gpio.fsel, s.gpio.out ||| v⟩ := rfl
@[simp] theorem memWriteSet0_sensors (v : Word) : (memWriteSet0 v s).sensors = s.sensors := rfl
@[simp] theorem memWriteSet0_env (v : Word) : (memWriteSet0 v s).env = s.env := rfl
@[simp] theorem memWriteSet0_inputs (v : Word) : (memWriteSet0 v s).inputs = s.inputs := rfl
@[simp] theorem memWriteSet0_history (v : Word) : (memWriteSet0 v s).history = .memWrite gpioWSet0 v :: s.history := rfl
@[simp] theorem memWriteSet0_hostLog (v : Word) : (memWriteSet0 v s).hostLog = s.hostLog := rfl

@[simp] theorem memWriteClr0_ph (v : Word) : (memWriteClr0 v s).ph = s.ph := rfl
@[simp] theorem memWriteClr0_busy (v : Word) : (memWriteClr0 v s).busy = s.busy := rfl
@[simp] theorem memWriteClr0_done (v : Word) : (memWriteClr0 v s).done = s.done := rfl
@[simp] theorem memWriteClr0_ginit (v : Word) : (memWriteClr0 v s).ginit = s.ginit := rfl
@[simp] theorem memWriteClr0_crit (v : Word) : (memWriteClr0 v s).crit = s.crit := rfl
@[simp] theorem memWriteClr0_halt (v : Word) : (memWriteClr0 v s).halt = s.halt := rfl
@[simp] theorem memWriteClr0_pinr (v : Word) : (memWriteClr0 v s).pinr = s.pinr := rfl
@[simp] theorem memWriteClr0_kindr (v : Word) : (memWriteClr0 v s).kindr = s.kindr := rfl
@[simp] theorem memWriteClr0_addr7 (v : Word) : (memWriteClr0 v s).addr7 = s.addr7 := rfl
@[simp] theorem memWriteClr0_gbase (v : Word) : (memWriteClr0 v s).gbase = s.gbase := rfl
@[simp] theorem memWriteClr0_delay (v : Word) : (memWriteClr0 v s).delay = s.delay := rfl
@[simp] theorem memWriteClr0_err (v : Word) : (memWriteClr0 v s).err = s.err := rfl
@[simp] theorem memWriteClr0_resT (v : Word) : (memWriteClr0 v s).resT = s.resT := rfl
@[simp] theorem memWriteClr0_resH (v : Word) : (memWriteClr0 v s).resH = s.resH := rfl
@[simp] theorem memWriteClr0_resP (v : Word) : (memWriteClr0 v s).resP = s.resP := rfl
@[simp] theorem memWriteClr0_pinval (v : Word) : (memWriteClr0 v s).pinval = s.pinval := rfl
@[simp] theorem memWriteClr0_chipid (v : Word) : (memWriteClr0 v s).chipid = s.chipid := rfl
@[simp] theorem memWriteClr0_ow (v : Word) : (memWriteClr0 v s).ow = s.ow := rfl
@[simp] theorem memWriteClr0_bme (v : Word) : (memWriteClr0 v s).bme = s.bme := rfl
@[simp] theorem memWriteClr0_bmp (v : Word) : (memWriteClr0 v s).bmp = s.bmp := rfl
@[simp] theorem memWriteClr0_gpio (v : Word) : (memWriteClr0 v s).gpio = ⟨s.gpio.fsel, s.gpio.out &&& ~~~v⟩ := rfl
@[simp] theorem memWriteClr0_sensors (v : Word) : (memWriteClr0 v s).sensors = s.sensors := rfl
@[simp] theorem memWriteClr0_env (v : Word) : (memWriteClr0 v s).env = s.env := rfl
@[simp] theorem memWriteClr0_inputs (v : Word) : (memWriteClr0 v s).inputs = s.inputs := rfl
@[simp] theorem memWriteClr0_history (v : Word) : (memWriteClr0 v s).history = .memWrite gpioWClr0 v :: s.history := rfl
@[simp] theorem memWriteClr0_hostLog (v : Word) : (memWriteClr0 v s).hostLog = s.hostLog := rfl

@[simp] theorem memReadLev0_ph : ((memReadLev0 s).2).ph = s.ph := rfl
@[simp] theorem memReadLev0_busy : ((memReadLev0 s).2).busy = s.busy := rfl
@[simp] theorem memReadLev0_done : ((memReadLev0 s).2).done = s.done := rfl
@[simp] theorem memReadLev0_ginit : ((memReadLev0 s).2).ginit = s.ginit := rfl
@[simp] theorem memReadLev0_crit : ((memReadLev0 s).2).crit = s.crit := rfl
@[simp] theorem memReadLev0_halt : ((memReadLev0 s).2).halt = s.halt := rfl
@[simp] theorem memReadLev0_pinr : ((memReadLev0 s).2).pinr = s.pinr := rfl
@[simp] theorem memReadLev0_kindr : ((memReadLev0 s).2).kindr = s.kindr := rfl
@[simp] theorem memReadLev0_addr7 : ((memReadLev0 s).2).addr7 = s.addr7 := rfl
@[simp] theorem memReadLev0_gbase : ((memReadLev0 s).2).gbase = s.gbase := rfl
@[simp] theorem memReadLev0_delay : ((memReadLev0 s).2).delay = s.delay := rfl
@[simp] theorem memReadLev0_err : ((memReadLev0 s).2).err = s.err := rfl
@[simp] theorem memReadLev0_resT : ((memReadLev0 s).2).resT = s.resT := rfl
@[simp] theorem memReadLev0_resH : ((memReadLev0 s).2).resH = s.resH := rfl
@[simp] theorem memReadLev0_resP : ((memReadLev0 s).2).resP = s.resP := rfl
@[simp] theorem memReadLev0_pinval : ((memReadLev0 s).2).pinval = s.pinval := rfl
@[simp] theorem memReadLev0_chipid : ((memReadLev0 s).2).chipid = s.chipid := rfl
@[simp] theorem memReadLev0_ow : ((memReadLev0 s).2).ow = s.ow := rfl
@[simp] theorem memReadLev0_bme : ((memReadLev0 s).2).bme = s.bme := rfl
@[simp] theorem memReadLev0_bmp : ((memReadLev0 s).2).bmp = s.bmp := rfl
@[simp] theorem memReadLev0_gpio : ((memReadLev0 s).2).gpio = s.gpio := rfl
@[simp] theorem memReadLev0_sensors : ((memReadLev0 s).2).sensors = s.sensors := rfl
@[simp] theorem memReadLev0_env : ((memReadLev0 s).2).env = { s.env with lev0 := s.env.lev0.tail, draws := drawsAfter s.env.lev0 s.env.draws } := rfl
@[simp] theorem memReadLev0_inputs : ((memReadLev0 s).2).inputs = s.inputs := rfl
@[simp] theorem memReadLev0_history : ((memReadLev0 s).2).history = .memRead gpioWLev0 (nextLev0 s) :: s.history := rfl
@[simp] theorem memReadLev0_hostLog : ((memReadLev0 s).2).hostLog = s.hostLog := rfl

@[simp] theorem platHandshake_ph : ((platHandshake s).2).ph = s.ph := rfl
@[simp] theorem platHandshake_busy : ((platHandshake s).2).busy = s.busy := rfl
@[simp] theorem platHandshake_done : ((platHandshake s).2).done = s.done := rfl
@[simp] theorem platHandshake_ginit : ((platHandshake s).2).ginit = s.ginit := rfl
@[simp] theorem platHandshake_crit : ((platHandshake s).2).crit = s.crit := rfl
@[simp] theorem platHandshake_halt : ((platHandshake s).2).halt = s.halt := rfl
@[simp] theorem platHandshake_pinr : ((platHandshake s).2).pinr = s.pinr := rfl
@[simp] theorem platHandshake_kindr : ((platHandshake s).2).kindr = s.kindr := rfl
@[simp] theorem platHandshake_addr7 : ((platHandshake s).2).addr7 = s.addr7 := rfl
@[simp] theorem platHandshake_gbase : ((platHandshake s).2).gbase = s.gbase := rfl
@[simp] theorem platHandshake_delay : ((platHandshake s).2).delay = s.delay := rfl
@[simp] theorem platHandshake_err : ((platHandshake s).2).err = s.err := rfl
@[simp] theorem platHandshake_resT : ((platHandshake s).2).resT = s.resT := rfl
@[simp] theorem platHandshake_resH : ((platHandshake s).2).resH = s.resH := rfl
@[simp] theorem platHandshake_resP : ((platHandshake s).2).resP = s.resP := rfl
@[simp] theorem platHandshake_pinval : ((platHandshake s).2).pinval = s.pinval := rfl
@[simp] theorem platHandshake_chipid : ((platHandshake s).2).chipid = s.chipid := rfl
@[simp] theorem platHandshake_ow : ((platHandshake s).2).ow = s.ow := rfl
@[simp] theorem platHandshake_bme : ((platHandshake s).2).bme = s.bme := rfl
@[simp] theorem platHandshake_bmp : ((platHandshake s).2).bmp = s.bmp := rfl
@[simp] theorem platHandshake_gpio : ((platHandshake s).2).gpio = s.gpio := rfl
@[simp] theorem platHandshake_sensors : ((platHandshake s).2).sensors = s.sensors := rfl
@[simp] theorem platHandshake_env : ((platHandshake s).2).env = { s.env with plat := s.env.plat.tail, draws := drawsAfter s.env.plat s.env.draws } := rfl
@[simp] theorem platHandshake_inputs : ((platHandshake s).2).inputs = s.inputs := rfl
@[simp] theorem platHandshake_history : ((platHandshake s).2).history = .plat (nextPlat s) :: s.history := rfl
@[simp] theorem platHandshake_hostLog : ((platHandshake s).2).hostLog = s.hostLog := rfl

@[simp] theorem i2cOpen_ph : ((i2cOpen s).2).ph = s.ph := rfl
@[simp] theorem i2cOpen_busy : ((i2cOpen s).2).busy = s.busy := rfl
@[simp] theorem i2cOpen_done : ((i2cOpen s).2).done = s.done := rfl
@[simp] theorem i2cOpen_ginit : ((i2cOpen s).2).ginit = s.ginit := rfl
@[simp] theorem i2cOpen_crit : ((i2cOpen s).2).crit = s.crit := rfl
@[simp] theorem i2cOpen_halt : ((i2cOpen s).2).halt = s.halt := rfl
@[simp] theorem i2cOpen_pinr : ((i2cOpen s).2).pinr = s.pinr := rfl
@[simp] theorem i2cOpen_kindr : ((i2cOpen s).2).kindr = s.kindr := rfl
@[simp] theorem i2cOpen_addr7 : ((i2cOpen s).2).addr7 = s.addr7 := rfl
@[simp] theorem i2cOpen_gbase : ((i2cOpen s).2).gbase = s.gbase := rfl
@[simp] theorem i2cOpen_delay : ((i2cOpen s).2).delay = s.delay := rfl
@[simp] theorem i2cOpen_err : ((i2cOpen s).2).err = s.err := rfl
@[simp] theorem i2cOpen_resT : ((i2cOpen s).2).resT = s.resT := rfl
@[simp] theorem i2cOpen_resH : ((i2cOpen s).2).resH = s.resH := rfl
@[simp] theorem i2cOpen_resP : ((i2cOpen s).2).resP = s.resP := rfl
@[simp] theorem i2cOpen_pinval : ((i2cOpen s).2).pinval = s.pinval := rfl
@[simp] theorem i2cOpen_chipid : ((i2cOpen s).2).chipid = s.chipid := rfl
@[simp] theorem i2cOpen_ow : ((i2cOpen s).2).ow = s.ow := rfl
@[simp] theorem i2cOpen_bme : ((i2cOpen s).2).bme = s.bme := rfl
@[simp] theorem i2cOpen_bmp : ((i2cOpen s).2).bmp = s.bmp := rfl
@[simp] theorem i2cOpen_gpio : ((i2cOpen s).2).gpio = s.gpio := rfl
@[simp] theorem i2cOpen_sensors : ((i2cOpen s).2).sensors = s.sensors := rfl
@[simp] theorem i2cOpen_env : ((i2cOpen s).2).env = { s.env with i2cOpen := s.env.i2cOpen.tail, draws := drawsAfter s.env.i2cOpen s.env.draws } := rfl
@[simp] theorem i2cOpen_inputs : ((i2cOpen s).2).inputs = s.inputs := rfl
@[simp] theorem i2cOpen_history : ((i2cOpen s).2).history = .i2cOpen s.addr7 (nextOpen s) :: s.history := rfl
@[simp] theorem i2cOpen_hostLog : ((i2cOpen s).2).hostLog = s.hostLog := rfl

@[simp] theorem i2cRead_ph (r : Byte) (n : Nat) : ((i2cRead r n s).2).ph = s.ph := rfl
@[simp] theorem i2cRead_busy (r : Byte) (n : Nat) : ((i2cRead r n s).2).busy = s.busy := rfl
@[simp] theorem i2cRead_done (r : Byte) (n : Nat) : ((i2cRead r n s).2).done = s.done := rfl
@[simp] theorem i2cRead_ginit (r : Byte) (n : Nat) : ((i2cRead r n s).2).ginit = s.ginit := rfl
@[simp] theorem i2cRead_crit (r : Byte) (n : Nat) : ((i2cRead r n s).2).crit = s.crit := rfl
@[simp] theorem i2cRead_halt (r : Byte) (n : Nat) : ((i2cRead r n s).2).halt = s.halt := rfl
@[simp] theorem i2cRead_pinr (r : Byte) (n : Nat) : ((i2cRead r n s).2).pinr = s.pinr := rfl
@[simp] theorem i2cRead_kindr (r : Byte) (n : Nat) : ((i2cRead r n s).2).kindr = s.kindr := rfl
@[simp] theorem i2cRead_addr7 (r : Byte) (n : Nat) : ((i2cRead r n s).2).addr7 = s.addr7 := rfl
@[simp] theorem i2cRead_gbase (r : Byte) (n : Nat) : ((i2cRead r n s).2).gbase = s.gbase := rfl
@[simp] theorem i2cRead_delay (r : Byte) (n : Nat) : ((i2cRead r n s).2).delay = s.delay := rfl
@[simp] theorem i2cRead_err (r : Byte) (n : Nat) : ((i2cRead r n s).2).err = s.err := rfl
@[simp] theorem i2cRead_resT (r : Byte) (n : Nat) : ((i2cRead r n s).2).resT = s.resT := rfl
@[simp] theorem i2cRead_resH (r : Byte) (n : Nat) : ((i2cRead r n s).2).resH = s.resH := rfl
@[simp] theorem i2cRead_resP (r : Byte) (n : Nat) : ((i2cRead r n s).2).resP = s.resP := rfl
@[simp] theorem i2cRead_pinval (r : Byte) (n : Nat) : ((i2cRead r n s).2).pinval = s.pinval := rfl
@[simp] theorem i2cRead_chipid (r : Byte) (n : Nat) : ((i2cRead r n s).2).chipid = s.chipid := rfl
@[simp] theorem i2cRead_ow (r : Byte) (n : Nat) : ((i2cRead r n s).2).ow = s.ow := rfl
@[simp] theorem i2cRead_bme (r : Byte) (n : Nat) : ((i2cRead r n s).2).bme = s.bme := rfl
@[simp] theorem i2cRead_bmp (r : Byte) (n : Nat) : ((i2cRead r n s).2).bmp = s.bmp := rfl
@[simp] theorem i2cRead_gpio (r : Byte) (n : Nat) : ((i2cRead r n s).2).gpio = s.gpio := rfl
@[simp] theorem i2cRead_sensors (r : Byte) (n : Nat) : ((i2cRead r n s).2).sensors = s.sensors := rfl
@[simp] theorem i2cRead_env (r : Byte) (n : Nat) : ((i2cRead r n s).2).env = { s.env with i2cRead := s.env.i2cRead.tail, draws := drawsAfter s.env.i2cRead s.env.draws } := rfl
@[simp] theorem i2cRead_inputs (r : Byte) (n : Nat) : ((i2cRead r n s).2).inputs = s.inputs := rfl
@[simp] theorem i2cRead_history (r : Byte) (n : Nat) : ((i2cRead r n s).2).history = .i2cRead s.addr7 r n (nextRead n s) :: s.history := rfl
@[simp] theorem i2cRead_hostLog (r : Byte) (n : Nat) : ((i2cRead r n s).2).hostLog = s.hostLog := rfl

@[simp] theorem setCnt_ph (c : Count) : (setCnt c s).ph = s.ph := rfl
@[simp] theorem setCnt_busy (c : Count) : (setCnt c s).busy = s.busy := rfl
@[simp] theorem setCnt_done (c : Count) : (setCnt c s).done = s.done := rfl
@[simp] theorem setCnt_ginit (c : Count) : (setCnt c s).ginit = s.ginit := rfl
@[simp] theorem setCnt_crit (c : Count) : (setCnt c s).crit = s.crit := rfl
@[simp] theorem setCnt_halt (c : Count) : (setCnt c s).halt = s.halt := rfl
@[simp] theorem setCnt_pinr (c : Count) : (setCnt c s).pinr = s.pinr := rfl
@[simp] theorem setCnt_kindr (c : Count) : (setCnt c s).kindr = s.kindr := rfl
@[simp] theorem setCnt_addr7 (c : Count) : (setCnt c s).addr7 = s.addr7 := rfl
@[simp] theorem setCnt_gbase (c : Count) : (setCnt c s).gbase = s.gbase := rfl
@[simp] theorem setCnt_delay (c : Count) : (setCnt c s).delay = s.delay := rfl
@[simp] theorem setCnt_err (c : Count) : (setCnt c s).err = s.err := rfl
@[simp] theorem setCnt_resT (c : Count) : (setCnt c s).resT = s.resT := rfl
@[simp] theorem setCnt_resH (c : Count) : (setCnt c s).resH = s.resH := rfl
@[simp] theorem setCnt_resP (c : Count) : (setCnt c s).resP = s.resP := rfl
@[simp] theorem setCnt_pinval (c : Count) : (setCnt c s).pinval = s.pinval := rfl
@[simp] theorem setCnt_chipid (c : Count) : (setCnt c s).chipid = s.chipid := rfl
@[simp] theorem setCnt_ow (c : Count) : (setCnt c s).ow = { s.ow with cnt := c } := rfl
@[simp] theorem setCnt_bme (c : Count) : (setCnt c s).bme = s.bme := rfl
@[simp] theorem setCnt_bmp (c : Count) : (setCnt c s).bmp = s.bmp := rfl
@[simp] theorem setCnt_gpio (c : Count) : (setCnt c s).gpio = s.gpio := rfl
@[simp] theorem setCnt_sensors (c : Count) : (setCnt c s).sensors = s.sensors := rfl
@[simp] theorem setCnt_env (c : Count) : (setCnt c s).env = s.env := rfl
@[simp] theorem setCnt_inputs (c : Count) : (setCnt c s).inputs = s.inputs := rfl
@[simp] theorem setCnt_history (c : Count) : (setCnt c s).history = s.history := rfl
@[simp] theorem setCnt_hostLog (c : Count) : (setCnt c s).hostLog = s.hostLog := rfl

@[simp] theorem setTrace_ph (j : Nat) (c : Count) : (setTrace j c s).ph = s.ph := rfl
@[simp] theorem setTrace_busy (j : Nat) (c : Count) : (setTrace j c s).busy = s.busy := rfl
@[simp] theorem setTrace_done (j : Nat) (c : Count) : (setTrace j c s).done = s.done := rfl
@[simp] theorem setTrace_ginit (j : Nat) (c : Count) : (setTrace j c s).ginit = s.ginit := rfl
@[simp] theorem setTrace_crit (j : Nat) (c : Count) : (setTrace j c s).crit = s.crit := rfl
@[simp] theorem setTrace_halt (j : Nat) (c : Count) : (setTrace j c s).halt = s.halt := rfl
@[simp] theorem setTrace_pinr (j : Nat) (c : Count) : (setTrace j c s).pinr = s.pinr := rfl
@[simp] theorem setTrace_kindr (j : Nat) (c : Count) : (setTrace j c s).kindr = s.kindr := rfl
@[simp] theorem setTrace_addr7 (j : Nat) (c : Count) : (setTrace j c s).addr7 = s.addr7 := rfl
@[simp] theorem setTrace_gbase (j : Nat) (c : Count) : (setTrace j c s).gbase = s.gbase := rfl
@[simp] theorem setTrace_delay (j : Nat) (c : Count) : (setTrace j c s).delay = s.delay := rfl
@[simp] theorem setTrace_err (j : Nat) (c : Count) : (setTrace j c s).err = s.err := rfl
@[simp] theorem setTrace_resT (j : Nat) (c : Count) : (setTrace j c s).resT = s.resT := rfl
@[simp] theorem setTrace_resH (j : Nat) (c : Count) : (setTrace j c s).resH = s.resH := rfl
@[simp] theorem setTrace_resP (j : Nat) (c : Count) : (setTrace j c s).resP = s.resP := rfl
@[simp] theorem setTrace_pinval (j : Nat) (c : Count) : (setTrace j c s).pinval = s.pinval := rfl
@[simp] theorem setTrace_chipid (j : Nat) (c : Count) : (setTrace j c s).chipid = s.chipid := rfl
@[simp] theorem setTrace_ow (j : Nat) (c : Count) : (setTrace j c s).ow = { s.ow with trace := s.ow.trace.setIfInBounds j c } := rfl
@[simp] theorem setTrace_bme (j : Nat) (c : Count) : (setTrace j c s).bme = s.bme := rfl
@[simp] theorem setTrace_bmp (j : Nat) (c : Count) : (setTrace j c s).bmp = s.bmp := rfl
@[simp] theorem setTrace_gpio (j : Nat) (c : Count) : (setTrace j c s).gpio = s.gpio := rfl
@[simp] theorem setTrace_sensors (j : Nat) (c : Count) : (setTrace j c s).sensors = s.sensors := rfl
@[simp] theorem setTrace_env (j : Nat) (c : Count) : (setTrace j c s).env = s.env := rfl
@[simp] theorem setTrace_inputs (j : Nat) (c : Count) : (setTrace j c s).inputs = s.inputs := rfl
@[simp] theorem setTrace_history (j : Nat) (c : Count) : (setTrace j c s).history = s.history := rfl
@[simp] theorem setTrace_hostLog (j : Nat) (c : Count) : (setTrace j c s).hostLog = s.hostLog := rfl

@[simp] theorem clearTrace_ph : (clearTrace s).ph = s.ph := rfl
@[simp] theorem clearTrace_busy : (clearTrace s).busy = s.busy := rfl
@[simp] theorem clearTrace_done : (clearTrace s).done = s.done := rfl
@[simp] theorem clearTrace_ginit : (clearTrace s).ginit = s.ginit := rfl
@[simp] theorem clearTrace_crit : (clearTrace s).crit = s.crit := rfl
@[simp] theorem clearTrace_halt : (clearTrace s).halt = s.halt := rfl
@[simp] theorem clearTrace_pinr : (clearTrace s).pinr = s.pinr := rfl
@[simp] theorem clearTrace_kindr : (clearTrace s).kindr = s.kindr := rfl
@[simp] theorem clearTrace_addr7 : (clearTrace s).addr7 = s.addr7 := rfl
@[simp] theorem clearTrace_gbase : (clearTrace s).gbase = s.gbase := rfl
@[simp] theorem clearTrace_delay : (clearTrace s).delay = s.delay := rfl
@[simp] theorem clearTrace_err : (clearTrace s).err = s.err := rfl
@[simp] theorem clearTrace_resT : (clearTrace s).resT = s.resT := rfl
@[simp] theorem clearTrace_resH : (clearTrace s).resH = s.resH := rfl
@[simp] theorem clearTrace_resP : (clearTrace s).resP = s.resP := rfl
@[simp] theorem clearTrace_pinval : (clearTrace s).pinval = s.pinval := rfl
@[simp] theorem clearTrace_chipid : (clearTrace s).chipid = s.chipid := rfl
@[simp] theorem clearTrace_ow : (clearTrace s).ow = { s.ow with trace := Vector.replicate 82 0 } := rfl
@[simp] theorem clearTrace_bme : (clearTrace s).bme = s.bme := rfl
@[simp] theorem clearTrace_bmp : (clearTrace s).bmp = s.bmp := rfl
@[simp] theorem clearTrace_gpio : (clearTrace s).gpio = s.gpio := rfl
@[simp] theorem clearTrace_sensors : (clearTrace s).sensors = s.sensors := rfl
@[simp] theorem clearTrace_env : (clearTrace s).env = s.env := rfl
@[simp] theorem clearTrace_inputs : (clearTrace s).inputs = s.inputs := rfl
@[simp] theorem clearTrace_history : (clearTrace s).history = s.history := rfl
@[simp] theorem clearTrace_hostLog : (clearTrace s).hostLog = s.hostLog := rfl

@[simp] theorem setBmeTmp_ph (f : BmeTmp → BmeTmp) : (setBmeTmp f s).ph = s.ph := rfl
@[simp] theorem setBmeTmp_busy (f : BmeTmp → BmeTmp) : (setBmeTmp f s).busy = s.busy := rfl
@[simp] theorem setBmeTmp_done (f : BmeTmp → BmeTmp) : (setBmeTmp f s).done = s.done := rfl
@[simp] theorem setBmeTmp_ginit (f : BmeTmp → BmeTmp) : (setBmeTmp f s).ginit = s.ginit := rfl
@[simp] theorem setBmeTmp_crit (f : BmeTmp → BmeTmp) : (setBmeTmp f s).crit = s.crit := rfl
@[simp] theorem setBmeTmp_halt (f : BmeTmp → BmeTmp) : (setBmeTmp f s).halt = s.halt := rfl
@[simp] theorem setBmeTmp_pinr (f : BmeTmp → BmeTmp) : (setBmeTmp f s).pinr = s.pinr := rfl
@[simp] theorem setBmeTmp_kindr (f : BmeTmp → BmeTmp) : (setBmeTmp f s).kindr = s.kindr := rfl
@[simp] theorem setBmeTmp_addr7 (f : BmeTmp → BmeTmp) : (setBmeTmp f s).addr7 = s.addr7 := rfl
@[simp] theorem setBmeTmp_gbase (f : BmeTmp → BmeTmp) : (setBmeTmp f s).gbase = s.gbase := rfl
@[simp] theorem setBmeTmp_delay (f : BmeTmp → BmeTmp) : (setBmeTmp f s).delay = s.delay := rfl
@[simp] theorem setBmeTmp_err (f : BmeTmp → BmeTmp) : (setBmeTmp f s).err = s.err := rfl
@[simp] theorem setBmeTmp_resT (f : BmeTmp → BmeTmp) : (setBmeTmp f s).resT = s.resT := rfl
@[simp] theorem setBmeTmp_resH (f : BmeTmp → BmeTmp) : (setBmeTmp f s).resH = s.resH := rfl
@[simp] theorem setBmeTmp_resP (f : BmeTmp → BmeTmp) : (setBmeTmp f s).resP = s.resP := rfl
@[simp] theorem setBmeTmp_pinval (f : BmeTmp → BmeTmp) : (setBmeTmp f s).pinval = s.pinval := rfl
@[simp] theorem setBmeTmp_chipid (f : BmeTmp → BmeTmp) : (setBmeTmp f s).chipid = s.chipid := rfl
@[simp] theorem setBmeTmp_ow (f : BmeTmp → BmeTmp) : (setBmeTmp f s).ow = s.ow := rfl
@[simp] theorem setBmeTmp_bme (f : BmeTmp → BmeTmp) : (setBmeTmp f s).bme = { s.bme with tmp := f s.bme.tmp } := rfl
@[simp] theorem setBmeTmp_bmp (f : BmeTmp → BmeTmp) : (setBmeTmp f s).bmp = s.bmp := rfl
@[simp] theorem setBmeTmp_gpio (f : BmeTmp → BmeTmp) : (setBmeTmp f s).gpio = s.gpio := rfl
@[simp] theorem setBmeTmp_sensors (f : BmeTmp → BmeTmp) : (setBmeTmp f s).sensors = s.sensors := rfl
@[simp] theorem setBmeTmp_env (f : BmeTmp → BmeTmp) : (setBmeTmp f s).env = s.env := rfl
@[simp] theorem setBmeTmp_inputs (f : BmeTmp → BmeTmp) : (setBmeTmp f s).inputs = s.inputs := rfl
@[simp] theorem setBmeTmp_history (f : BmeTmp → BmeTmp) : (setBmeTmp f s).history = s.history := rfl
@[simp] theorem setBmeTmp_hostLog (f : BmeTmp → BmeTmp) : (setBmeTmp f s).hostLog = s.hostLog := rfl

end Sys2Proof.Machine
end

