-- ==== Sys2Proof/Laws/Ops.lean ====
section
/-! SUPPORT. For each shared operation, what it can do, said once: the two shapes of a command, the pin and bus
operations, the poll loop and the capture, and the inversion of exec and step. -/

namespace Sys2Proof.Machine

/-! The shapes of a command. -/

theorem inFlight_eq_none {s : State} : s.inFlight = none ↔ s.ph = .idle := by
  cases h : s.ph <;> simp [State.inFlight, h]

theorem single_idle {body : State → State} {s : State} (h : s.ph = .idle) :
    single body s = .next (body (accept s)) := by simp [single, State.inFlight, h]

theorem single_next {body : State → State} {s t : State} (h : single body s = .next t) :
    s.ph = .idle ∧ t = body (accept s) := by
  unfold single at h
  split at h
  · rename_i hf
    exact ⟨inFlight_eq_none.1 hf, by simpa using h.symm⟩
  · cases h

theorem compound_idle {i : Instr} {latch phase : State → State} {first : Phase} {s : State} (h : s.ph = .idle) :
    compound i latch first phase s = .next (gotoPhase first (latch (accept s))) := by
  simp [compound, State.inFlight, h]

theorem compound_inFlight {i : Instr} {latch phase : State → State} {first : Phase} {s : State}
    (h : s.inFlight = some i) : compound i latch first phase s = .next (phase s) := by
  simp [compound, h]

theorem compound_next {i : Instr} {latch phase : State → State} {first : Phase} {s t : State}
    (h : compound i latch first phase s = .next t) :
    (s.ph = .idle ∧ t = gotoPhase first (latch (accept s))) ∨ (s.inFlight = some i ∧ t = phase s) := by
  unfold compound at h
  split at h
  · rename_i hf
    exact .inl ⟨inFlight_eq_none.1 hf, by simpa using h.symm⟩
  · rename_i j hf
    split_ifs at h with hj
    subst hj
    exact .inr ⟨hf, by simpa using h.symm⟩

/-! What a command starts with and what one of its phases does, over all commands. -/

/-- The state a command leaves when it is handed over at IDLE. -/
def startOf (i : Instr) (s : State) : State :=
  match i with
  | .gpioInit => gpioInitBody (accept s)
  | .setInput p => pinBody p (pinSetInput p) (accept s)
  | .setOutput p => pinBody p (pinSetOutput p) (accept s)
  | .setHigh p => pinBody p (pinSetHigh p) (accept s)
  | .setLow p => pinBody p (pinSetLow p) (accept s)
  | .readPin p => pinBody p (latchLevel p) (accept s)
  | .readOneWire k p => { accept s with kindr := k, pinr := p, ph := .ow0 }
  | .readBme280 a => { accept s with addr7 := a, ph := .b1 }
  | .readBmp180 a => { accept s with addr7 := a, ph := .p1 }

/-- The state the phase PH names leaves. -/
def phaseOf (s : State) : State :=
  match s.inFlight with
  | some (.readOneWire _ _) => oneWirePhase Config.params s
  | some (.readBme280 _) => bme280Phase Config.params s
  | some (.readBmp180 _) => bmp180Phase Config.params s
  | _ => s

theorem exec_idle {i : Instr} {s : State} (h : s.ph = .idle) : exec i s = .next (startOf i s) := by
  cases i <;> simp only [exec, execGpioInit, execSetInput, execSetOutput, execSetHigh, execSetLow, execReadPin,
    execReadOneWire, execReadBme280, execReadBmp180, single_idle h, compound_idle h] <;> rfl

theorem exec_inFlight {i : Instr} {s : State} (h : s.inFlight = some i) : exec i s = .next (phaseOf s) := by
  have hc : (∃ k p, i = .readOneWire k p) ∨ (∃ a, i = .readBme280 a) ∨ ∃ a, i = .readBmp180 a := by
    cases hp : s.ph <;> simp [State.inFlight, hp] at h <;> subst h <;> simp
  obtain ⟨k, p, rfl⟩ | ⟨a, rfl⟩ | ⟨a, rfl⟩ := hc <;>
    simp only [exec, execReadOneWire, execReadBme280, execReadBmp180, compound_inFlight h, phaseOf, h]

/-- Everything exec can do when it answers a next state. -/
theorem exec_next {i : Instr} {s t : State} (h : exec i s = .next t) :
    (s.ph = .idle ∧ t = startOf i s) ∨ (s.inFlight = some i ∧ t = phaseOf s) := by
  by_cases hp : s.ph = .idle
  · rw [exec_idle hp] at h
    exact .inl ⟨hp, by simpa using h.symm⟩
  · have hs : ∀ body, single body s ≠ .next t := fun body hb => hp (single_next hb).1
    cases i <;> simp only [exec, execGpioInit, execSetInput, execSetOutput, execSetHigh, execSetLow, execReadPin,
      execReadOneWire, execReadBme280, execReadBmp180] at h
    iterate 6 exact absurd h (hs _)
    all_goals
      obtain ⟨h1, -⟩ | ⟨h1, h2⟩ := compound_next h
      · exact absurd h1 hp
      · exact .inr ⟨h1, by simpa only [phaseOf, h1] using h2⟩

/-- exec refuses a command handed over while another is in flight. -/
theorem exec_refused {i j : Instr} {s : State} (h : s.inFlight = some j) (hij : j ≠ i) :
    exec i s = .refused .commandWhileBusy := by
  cases i <;> simp only [exec, execGpioInit, execSetInput, execSetOutput, execSetHigh, execSetLow, execReadPin,
    execReadOneWire, execReadBme280, execReadBmp180, single, compound, h, if_neg hij]

/-! The step. -/

/-- Everything a step can do when it answers a next state, from the state `r` left when the input is taken. -/
theorem step_next {s t : State} (h : step s = .next t) :
    ∃ rest, ∃ r : State, r = { s with inputs := rest } ∧
      (t = r ∨ (∃ n, t = hostRead Config.params.resRepr n r) ∨
        ((∃ l, s.inputs = .reset :: l) ∧ s.busy = false ∧ t = r.resetBlock) ∨
        (s.busy = false ∧ s.halt = false ∧ t = fail .illegalCommand r) ∨
        (∃ i, exec i r = .next t ∧ ((s.busy = false ∧ s.halt = false) ∨ s.inFlight = some i))) := by
  have hseq : ∀ r : State, sequencerStep r = .next t →
      t = r ∨ ∃ i, exec i r = .next t ∧ r.inFlight = some i := by
    intro r hr
    unfold sequencerStep at hr
    split at hr
    · exact .inl (by simpa using hr.symm)
    · rename_i i hi
      exact .inr ⟨i, hr, hi⟩
  unfold step stepOnce at h
  split at h
  · rename_i hin
    refine ⟨[], s, by rw [← hin], ?_⟩
    obtain h | ⟨i, h1, h2⟩ := hseq s h
    · exact .inl h
    · exact .inr (.inr (.inr (.inr ⟨i, h1, .inr h2⟩)))
  · rename_i rest hin
    split_ifs at h with hb
    · refine ⟨s.inputs, s, rfl, ?_⟩
      obtain h | ⟨i, h1, h2⟩ := hseq s h
      · exact .inl h
      · exact .inr (.inr (.inr (.inr ⟨i, h1, .inr h2⟩)))
    · exact ⟨rest, _, rfl, .inl (by simpa using h.symm)⟩
  · rename_i inp rest hne hin
    refine ⟨rest, _, rfl, ?_⟩
    cases inp with
    | hostRead n => exact .inr (.inl ⟨n, by simpa [inputStep] using h.symm⟩)
    | awaitIdle => exact .inl (by simpa [inputStep] using h.symm)
    | tick =>
      obtain h | ⟨i, h1, h2⟩ := hseq _ h
      · exact .inl h
      · exact .inr (.inr (.inr (.inr ⟨i, h1, .inr h2⟩)))
    | reset =>
      simp only [inputStep, resetInput] at h
      split_ifs at h with hb
      exact .inr (.inr (.inl ⟨⟨rest, hin⟩, by simpa using hb, by simpa using h.symm⟩))
    | hostWrite n v =>
      simp only [inputStep, hostWrite, cmdWrite] at h
      split_ifs at h with hn hb hh
      · exact .inl (by simpa using h.symm)
      · split at h
        · rename_i i hd
          exact .inr (.inr (.inr (.inr ⟨i, h, .inl ⟨by simpa using hb, by simpa using hh⟩⟩)))
        · exact .inr (.inr (.inr (.inl ⟨by simpa using hb, by simpa using hh, by simpa using h.symm⟩)))
      · exact .inl (by simpa using h.symm)

/-! The pieces of a command. -/

/-- A pin operation moves the peripheral's registers and the history, and nothing else. -/
theorem pinOp_frame {p : Pin} {op : State → State} {s : State}
    (h : op = pinSetInput p ∨ op = pinSetOutput p ∨ op = pinSetHigh p ∨ op = pinSetLow p) :
    ∃ g l, op s = { s with gpio := g, history := l ++ s.history } := by
  obtain rfl | rfl | rfl | rfl := h
  · exact ⟨_, [_, _], rfl⟩
  · exact ⟨_, [_, _], rfl⟩
  · exact ⟨_, [_], rfl⟩
  · exact ⟨_, [_], rfl⟩

/-- A mandatory read is short and fails, or is full and its bytes are put to use. -/
theorem mandatoryRead_cases (r : Byte) (n : Nat) (use : List Byte → State → State) (s : State) :
    (nextRead n s = none ∧ mandatoryRead r n use s = fail .ioError (i2cRead r n s).2) ∨
    ∃ b, nextRead n s = some b ∧ mandatoryRead r n use s = use b (i2cRead r n s).2 := by
  unfold mandatoryRead
  split
  · rename_i b hb
    exact .inr ⟨b, hb, rfl⟩
  · rename_i hb
    exact .inl ⟨hb, rfl⟩

/-- A chip-ID read is recorded, or short and fatal, or short and passed over. -/
theorem chipIdPhase_cases (m : Bool) (r : Byte) (next : Phase) (s : State) :
    (∃ b, nextRead 1 s = some b ∧
      chipIdPhase m r next s = gotoPhase next { (i2cRead r 1 s).2 with chipid := some (b.getD 0 0) }) ∨
    (nextRead 1 s = none ∧ m = true ∧ chipIdPhase m r next s = fail .ioError (i2cRead r 1 s).2) ∨
    (nextRead 1 s = none ∧ m = false ∧ chipIdPhase m r next s = gotoPhase next (i2cRead r 1 s).2) := by
  unfold chipIdPhase
  split
  · rename_i b hb
    exact .inl ⟨b, hb, rfl⟩
  · rename_i hb
    cases m
    · exact .inr (.inr ⟨hb, rfl, rfl⟩)
    · exact .inr (.inl ⟨hb, rfl, rfl⟩)

/-- A run of lines goes on with the temporaries it leaves, or fails with them. -/
theorem bmpCompute_cases (lines : List BmpLine) (next : State → State) (s : State) :
    ∃ t : State, t = { s with bmp := { s.bmp with tmp := (runLines lines s.bmp.tmp).2 } } ∧
      (((runLines lines s.bmp.tmp).1 = true ∧ bmpCompute lines next s = next t) ∨
        ((runLines lines s.bmp.tmp).1 = false ∧ bmpCompute lines next s = fail .arithFault t)) := by
  refine ⟨_, rfl, ?_⟩
  unfold bmpCompute
  cases h : (runLines lines s.bmp.tmp).1
  · exact .inr ⟨rfl, by simp⟩
  · exact .inl ⟨rfl, by simp⟩

/-- A command that fails while HALT = 0 leaves the invariant of the flags. -/
theorem fail_FlagInv {k : Failure} {s : State} (hh : s.halt = false) (hi : k.halts = true → s.ginit = false) :
    (fail k s).FlagInv := by
  refine ⟨?_, ?_, ?_, ?_, ?_, ?_, ?_⟩ <;> cases k <;>
    simp [fail, setCrit, Phase.critical, Phase.usesGpio, State.noResults, Failure.code, Failure.halts, hh] <;>
    simp_all [Failure.halts]

/-- A command that succeeds leaves the invariant of the flags. -/
theorem finish_FlagInv {s : State} (hh : s.halt = false) (he : s.err = 0) (hc : s.crit = false) :
    (finish s).FlagInv := by
  refine ⟨?_, ?_, ?_, ?_, ?_, ?_, ?_⟩ <;>
    simp [finish, Phase.critical, Phase.usesGpio, State.noResults, hh, he, hc]

/-- A write to a sensor register keeps the canonical form of the register space. -/
theorem i2cWrite_memInv (r v : Byte) {s : State} (h : s.MemInv) : (i2cWrite r v s).MemInv :=
  Memory.write_wf v (sensorKey_lt s.addr7 r) h

/-- The register space is canonical at reset. -/
theorem reset_memInv : State.reset.MemInv := rfl

/-! The poll loop and the capture. -/

/-- The poll loop moves the environment, CNT and the history, and nothing else. -/
theorem spinLoop_frame (p : Pin) (level : Bool) (n : Nat) (s : State) :
    ∃ e c h, (spinLoop p level n s).2 = { s with env := e, ow := { s.ow with cnt := c }, history := h } ∧
      (∃ l, h = l ++ s.history) ∧
      e.plat = s.env.plat ∧ e.i2cOpen = s.env.i2cOpen ∧ e.i2cRead = s.env.i2cRead := by
  induction n generalizing s with
  | zero => exact ⟨s.env, s.ow.cnt, s.history, rfl, ⟨[], rfl⟩, rfl, rfl, rfl⟩
  | succ n ih =>
    simp only [spinLoop]
    split_ifs
    · exact ⟨_, _, _, rfl, ⟨[_], rfl⟩, rfl, rfl, rfl⟩
    · exact ⟨_, _, _, rfl, ⟨[_], rfl⟩, rfl, rfl, rfl⟩
    · obtain ⟨e, c, h, h1, ⟨l, rfl⟩, h2, h3, h4⟩ := ih (setCnt ((sample p s).2.ow.cnt + 1) (sample p s).2)
      exact ⟨e, c, _, h1, ⟨l ++ [_], (List.append_assoc l [_] s.history).symm⟩, h2, h3, h4⟩

/-- `SpinWhile` moves the environment, CNT and the history, and nothing else. -/
theorem spinWhile_frame (p : Pin) (level : Bool) (s : State) :
    ∃ e c h, (spinWhile p level s).2 = { s with env := e, ow := { s.ow with cnt := c }, history := h } ∧
      (∃ l, h = l ++ s.history) ∧
      e.plat = s.env.plat ∧ e.i2cOpen = s.env.i2cOpen ∧ e.i2cRead = s.env.i2cRead :=
  spinLoop_frame p level owMaxspin (setCnt 0 s)

/-- A count the poll loop returns is below OW_MAXSPIN (`41_onewire.md` R146). -/
theorem spinLoop_ok_lt {p : Pin} {level : Bool} {n : Nat} {s : State} {c : Count}
    (h : (spinLoop p level n s).1 = .ok c) (hs : s.ow.cnt.toNat + n = owMaxspin) (hn : 0 < n) :
    c.toNat < owMaxspin := by
  induction n generalizing s with
  | zero => omega
  | succ n ih =>
    have hmax : owMaxspin = 32000 := rfl
    simp only [spinLoop] at h
    split_ifs at h with h1 h2
    · simp only [Spin.ok.injEq] at h
      subst h
      show s.ow.cnt.toNat < owMaxspin
      omega
    · have hc : ((s.ow.cnt + 1 : Count)).toNat = s.ow.cnt.toNat + 1 := by
        rw [BitVec.toNat_add]; simp; omega
      have h2' : ¬ (s.ow.cnt + 1 : Count) = BitVec.ofNat 16 owMaxspin := h2
      have hne : s.ow.cnt.toNat + 1 ≠ 32000 := by
        intro e
        exact h2' (BitVec.eq_of_toNat_eq (by rw [hc, e]; rfl))
      exact ih h (by show ((s.ow.cnt + 1 : Count)).toNat + n = owMaxspin; omega) (by omega)

/-- A count `SpinWhile` returns is in 0..31999 (`41_onewire.md` R146). -/
theorem spinWhile_ok_lt {p : Pin} {level : Bool} {s : State} {c : Count} (h : (spinWhile p level s).1 = .ok c) :
    c.toNat < owMaxspin :=
  spinLoop_ok_lt h (by show (0 : Count).toNat + owMaxspin = owMaxspin; simp) (by decide)

/-- The capture moves the environment, the one-wire buffers and the history, and nothing else. -/
theorem captureFrom_frame (p : Pin) (n j : Nat) (s : State) :
    ∃ e o h, (captureFrom p n j s).2 = { s with env := e, ow := o, history := h } ∧
      (∃ l, h = l ++ s.history) ∧
      e.plat = s.env.plat ∧ e.i2cOpen = s.env.i2cOpen ∧ e.i2cRead = s.env.i2cRead := by
  induction n generalizing j s with
  | zero => exact ⟨s.env, s.ow, s.history, rfl, ⟨[], rfl⟩, rfl, rfl, rfl⟩
  | succ n ih =>
    simp only [captureFrom]
    obtain ⟨e, c, h, h1, ⟨l, rfl⟩, h2, h3, h4⟩ :=
      spinWhile_frame p (traceLevel j) { s with ow := { s.ow with idx := BitVec.ofNat 7 j } }
    split
    · rw [h1]
      exact ⟨e, _, _, rfl, ⟨l, rfl⟩, h2, h3, h4⟩
    · rename_i k hk
      obtain ⟨e', o', h', g1, ⟨l', rfl⟩, g2, g3, g4⟩ := ih (j + 1) (setTrace j k
        (spinWhile p (traceLevel j) { s with ow := { s.ow with idx := BitVec.ofNat 7 j } }).2)
      rw [g1, h1]
      rw [h1] at g2 g3 g4
      exact ⟨e', o', _, rfl, ⟨l' ++ l, by simp [setTrace]⟩, g2.trans h2, g3.trans h3, g4.trans h4⟩

end Sys2Proof.Machine
end

