-- ==== Sys2Proof/Laws/OneWire.lean ====
section
/-! SUPPORT. The poll loop on a scripted line (`41_onewire.md` R146): how many polls it makes and
what it leaves; and the capture (R148) on a script of runs. -/

namespace Sys2Proof.Machine

/-- The state after the LEV0 words `ws`, scripted first, have been read and `rest` is left, with CNT at `c`. -/
def afterPolls (ws rest : List Word) (c : Count) (s : State) : State :=
  { s with
    env := { s.env with lev0 := rest }, ow := { s.ow with cnt := c },
    history := ws.reverse.map (fun x => Event.memRead gpioWLev0 x) ++ s.history }

theorem sample_script {p : Pin} {s : State} {w : Word} {rest : List Word} (h : s.env.lev0 = w :: rest) :
    sample p s = (w.getLsbD p.toNat, afterPolls [w] rest s.ow.cnt s) := by
  simp [sample, memReadLev0, nextLev0, answer, drawsAfter, h, afterPolls, emit]

theorem toNat_add_one {c : Count} (h : c.toNat < owMaxspin) : (c + 1).toNat = c.toNat + 1 := by
  have : owMaxspin = 32000 := rfl
  rw [BitVec.toNat_add]; simp; omega

theorem add_one_eq_max {c : Count} (h : c.toNat < owMaxspin) :
    (c + 1 = BitVec.ofNat 16 owMaxspin) ↔ c.toNat + 1 = owMaxspin := by
  rw [← BitVec.toNat_inj, toNat_add_one h]; rfl

theorem spinLoop_ok {p : Pin} {level : Bool} {run rest : List Word} {w : Word} {n : Nat} {s : State}
    (hrun : ∀ x ∈ run, x.getLsbD p.toNat = level) (hw : w.getLsbD p.toNat ≠ level)
    (hlev : s.env.lev0 = run ++ w :: rest) (hcnt : s.ow.cnt.toNat + n = owMaxspin) (hn : run.length < n) :
    spinLoop p level n s =
      (.ok (s.ow.cnt + BitVec.ofNat 16 run.length),
        afterPolls (run ++ [w]) rest (s.ow.cnt + BitVec.ofNat 16 run.length) s) := by
  induction run generalizing n s with
  | nil =>
    obtain ⟨n, rfl⟩ : ∃ m, n = m + 1 := ⟨n - 1, by simp at hn; omega⟩
    simp only [spinLoop, sample_script hlev, if_pos hw]
    simp [afterPolls]
  | cons x run ih =>
    obtain ⟨n, rfl⟩ : ∃ m, n = m + 1 := ⟨n - 1, by simp at hn; omega⟩
    have hx : ¬ x.getLsbD p.toNat ≠ level := by simpa using hrun x (by simp)
    simp only [List.length_cons] at hn ⊢
    have hlt : s.ow.cnt.toNat < owMaxspin := by omega
    have hne : ¬ (s.ow.cnt + 1 : Count) = BitVec.ofNat 16 owMaxspin := by
      rw [add_one_eq_max hlt]; omega
    have := ih (n := n) (s := setCnt (s.ow.cnt + 1) (afterPolls [x] (run ++ w :: rest) s.ow.cnt s))
      (fun y hy => hrun y (by simp [hy])) rfl
      (by show (s.ow.cnt + 1 : Count).toNat + n = owMaxspin; rw [toNat_add_one hlt]; omega) (by omega)
    have hc : (s.ow.cnt + 1 : Count) + BitVec.ofNat 16 run.length = s.ow.cnt + BitVec.ofNat 16 (run.length + 1) := by
      rw [BitVec.ofNat_add]; ac_rfl
    simp only [spinLoop, sample_script hlev, if_neg hx]
    show (if (s.ow.cnt + 1 : Count) = BitVec.ofNat 16 owMaxspin then _ else _) = _
    rw [if_neg hne]
    refine this.trans ?_
    show ((Spin.ok ((s.ow.cnt + 1 : Count) + BitVec.ofNat 16 run.length), afterPolls _ _ ((s.ow.cnt + 1 : Count) + BitVec.ofNat 16 run.length) _) : Spin × State) = _
    rw [hc]
    simp [afterPolls, setCnt]

theorem spinLoop_timeout {p : Pin} {level : Bool} {run rest : List Word} {n : Nat} {s : State}
    (hrun : ∀ x ∈ run, x.getLsbD p.toNat = level)
    (hlev : s.env.lev0 = run ++ rest) (hcnt : s.ow.cnt.toNat + n = owMaxspin) (hn : run.length = n) (h0 : 0 < n) :
    spinLoop p level n s = (.timeout, afterPolls run rest (BitVec.ofNat 16 owMaxspin) s) := by
  induction run generalizing n s with
  | nil => simp at hn; omega
  | cons x run ih =>
    obtain ⟨n, rfl⟩ : ∃ m, n = m + 1 := ⟨n - 1, by omega⟩
    have hx : ¬ x.getLsbD p.toNat ≠ level := by simpa using hrun x (by simp)
    simp only [List.length_cons] at hn ⊢
    have hlt : s.ow.cnt.toNat < owMaxspin := by omega
    simp only [spinLoop, sample_script hlev, if_neg hx]
    show (if (s.ow.cnt + 1 : Count) = BitVec.ofNat 16 owMaxspin then _ else _) = _
    split_ifs with he
    · have : run = [] := by
        rw [add_one_eq_max hlt] at he
        apply List.eq_nil_of_length_eq_zero; omega
      subst this
      show (Spin.timeout, setCnt (s.ow.cnt + 1) _) = _
      rw [he]
      simp [afterPolls, setCnt]
    · have hn0 : 0 < n := by rw [add_one_eq_max hlt] at he; omega
      have := ih (n := n) (s := setCnt (s.ow.cnt + 1) (afterPolls [x] (run ++ rest) s.ow.cnt s))
        (fun y hy => hrun y (by simp [hy])) rfl
        (by show (s.ow.cnt + 1 : Count).toNat + n = owMaxspin; rw [toNat_add_one hlt]; omega) (by omega) hn0
      refine this.trans ?_
      simp [afterPolls, setCnt]

/-- `SpinWhile` on a script whose line changes in time. -/
theorem spinWhile_ok {p : Pin} {level : Bool} {run rest : List Word} {w : Word} {s : State}
    (hrun : ∀ x ∈ run, x.getLsbD p.toNat = level) (hw : w.getLsbD p.toNat ≠ level)
    (hlev : s.env.lev0 = run ++ w :: rest) (hn : run.length < owMaxspin) :
    spinWhile p level s =
      (.ok (BitVec.ofNat 16 run.length), afterPolls (run ++ [w]) rest (BitVec.ofNat 16 run.length) s) := by
  have := spinLoop_ok (s := setCnt 0 s) hrun hw hlev (n := owMaxspin) (by simp [setCnt]) hn
  rw [spinWhile, this]
  simp [setCnt, afterPolls]

/-- `SpinWhile` on a script whose line stays. -/
theorem spinWhile_timeout {p : Pin} {level : Bool} {run rest : List Word} {s : State}
    (hrun : ∀ x ∈ run, x.getLsbD p.toNat = level) (hlev : s.env.lev0 = run ++ rest) (hn : run.length = owMaxspin) :
    spinWhile p level s = (.timeout, afterPolls run rest (BitVec.ofNat 16 owMaxspin) s) := by
  have := spinLoop_timeout (s := setCnt 0 s) hrun hlev (n := owMaxspin) (by simp [setCnt]) hn (by decide)
  rw [spinWhile, this]
  simp [setCnt, afterPolls]

/-- One measurement of the capture on a script. -/
theorem captureFrom_succ_ok {p : Pin} {n j : Nat} {s t : State} {c : Count}
    (h : spinWhile p (traceLevel j) { s with ow := { s.ow with idx := BitVec.ofNat 7 j } } = (.ok c, t)) :
    captureFrom p (n + 1) j s = captureFrom p n (j + 1) (setTrace j c t) := by
  simp only [captureFrom, h]

theorem captureFrom_succ_timeout {p : Pin} {n j : Nat} {s t : State}
    (h : spinWhile p (traceLevel j) { s with ow := { s.ow with idx := BitVec.ofNat 7 j } } = (.timeout, t)) :
    captureFrom p (n + 1) j s = (false, t) := by
  simp only [captureFrom, h]

/-- The samples of `n` measurements from TRACE[j] on with counts `c j, c (j+1), …`: measurement `j` takes `c j` samples
at its level and one at the other, which is the first of the next run. -/
theorem captureFrom_ok (p : Pin) (c : Nat → Nat) (n j : Nat) (s : State) (words : List (List Word × Word))
    (rest : List Word) (hlen : words.length = n)
    (hw : ∀ i (h : i < words.length), words[i].1.length = c (j + i) ∧ c (j + i) < owMaxspin ∧
      (∀ x ∈ words[i].1, x.getLsbD p.toNat = traceLevel (j + i)) ∧ words[i].2.getLsbD p.toNat ≠ traceLevel (j + i))
    (hlev : s.env.lev0 = words.flatMap (fun g => g.1 ++ [g.2]) ++ rest) :
    ∃ (cnt : Count) (idx : BitVec 7) (trace : Vector Count 82), captureFrom p n j s = (true, { s with
        ow := { s.ow with cnt := cnt, idx := idx, trace := trace }, env := { s.env with lev0 := rest },
        history := (words.flatMap (fun g => g.1 ++ [g.2])).reverse.map (fun x => Event.memRead gpioWLev0 x) ++ s.history }) ∧
      (∀ k, k < j ∨ j + n ≤ k → trace.getD k 0 = s.ow.trace.getD k 0) ∧
      ∀ k, j ≤ k → k < j + n → k < 82 → (trace.getD k 0).toNat = c k := by
  induction words generalizing n j s with
  | nil =>
    subst hlen
    refine ⟨s.ow.cnt, s.ow.idx, s.ow.trace, ?_, ?_, ?_⟩
    · simp only [captureFrom, List.length_nil, List.flatMap_nil, List.nil_append] at hlev ⊢
      rw [← hlev]
      rfl
    · intros; rfl
    · intro k h1 h2; simp at h2; omega
  | cons g words ih =>
    obtain ⟨n, rfl⟩ : ∃ m, n = m + 1 := ⟨words.length, by simpa using hlen.symm⟩
    obtain ⟨h1, h2, h3, h4⟩ := hw 0 (by simp)
    simp only [Nat.add_zero, List.getElem_cons_zero] at h1 h2 h3 h4
    have hlev' : s.env.lev0 = g.1 ++ g.2 :: (words.flatMap (fun g => g.1 ++ [g.2]) ++ rest) := by
      rw [hlev]; simp
    have hs := spinWhile_ok (s := { s with ow := { s.ow with idx := BitVec.ofNat 7 j } }) h3 h4 hlev' (by omega)
    rw [captureFrom_succ_ok hs]
    obtain ⟨cnt, idx, trace, e1, e2, e3⟩ := ih n (j + 1)
      (setTrace j (BitVec.ofNat 16 g.1.length)
        (afterPolls (g.1 ++ [g.2]) (words.flatMap (fun g => g.1 ++ [g.2]) ++ rest) (BitVec.ofNat 16 g.1.length)
          { s with ow := { s.ow with idx := BitVec.ofNat 7 j } }))
      (by simpa using hlen)
      (by
        intro i hi
        have := hw (i + 1) (by simp; omega)
        rw [show j + 1 + i = j + (i + 1) by omega]
        simpa using this) rfl
    refine ⟨cnt, idx, trace, ?_, ?_, ?_⟩
    · rw [e1]
      simp [setTrace, afterPolls]
    · intro k hk
      rw [e2 k (by omega)]
      have : j ≠ k := by omega
      simp [setTrace, afterPolls, Vector.getD]
      simp [this]
    · intro k hk1 hk2 hk3
      by_cases hk : k = j
      · subst hk
        rw [e2 k (by omega)]
        have hm : owMaxspin = 32000 := rfl
        have h16 : g.1.length < 2 ^ 16 := by omega
        simp [setTrace, afterPolls, Vector.getD, hk3, h1]
        omega
      · exact e3 k (by omega) (by omega) hk3

/-- A capture of `n + m` measurements is one of `n`, and then, if all of them end in time, one of `m`. -/
theorem captureFrom_add (p : Pin) (n m j : Nat) (s : State) :
    captureFrom p (n + m) j s =
      if (captureFrom p n j s).1 then captureFrom p m (j + n) (captureFrom p n j s).2 else captureFrom p n j s := by
  induction n generalizing j s with
  | zero => simp [captureFrom]
  | succ n ih =>
    rw [show n + 1 + m = (n + m) + 1 by omega]
    cases h : spinWhile p (traceLevel j) { s with ow := { s.ow with idx := BitVec.ofNat 7 j } } with
    | mk r t =>
      cases r with
      | timeout => simp [captureFrom_succ_timeout h]
      | ok c => rw [captureFrom_succ_ok h, captureFrom_succ_ok h, ih, show j + 1 + n = j + (n + 1) by omega]

/-- Words whose levels are those of `n` measurements from TRACE[j] on fall into one group for each: the samples at the
measurement's level, and the one that ends it. -/
theorem groups_of_levels {p : Pin} {c : Nat → Nat} {n j : Nat} {words : List Word}
    (h : words.map (fun w => w.getLsbD p.toNat) =
      (List.range n).flatMap (fun i => List.replicate (c (j + i)) (traceLevel (j + i)) ++ [!traceLevel (j + i)])) :
    ∃ groups : List (List Word × Word), groups.length = n ∧ words = groups.flatMap (fun g => g.1 ++ [g.2]) ∧
      ∀ i (hi : i < groups.length), groups[i].1.length = c (j + i) ∧
        (∀ x ∈ groups[i].1, x.getLsbD p.toNat = traceLevel (j + i)) ∧
        groups[i].2.getLsbD p.toNat ≠ traceLevel (j + i) := by
  induction n generalizing j words with
  | zero => exact ⟨[], rfl, by simpa using h, by simp⟩
  | succ n ih =>
    rw [List.range_succ_eq_map, List.flatMap_cons, List.flatMap_map] at h
    obtain ⟨w1, w2, rfl, h1, h2⟩ := List.map_eq_append_iff.1 h
    obtain ⟨run, last, rfl, hrun, hlast⟩ := List.map_eq_append_iff.1 h1
    obtain ⟨w, rfl⟩ : ∃ w, last = [w] := List.length_eq_one_iff.1 (by simpa using congrArg List.length hlast)
    obtain ⟨groups, rfl, rfl, hg⟩ := ih (j := j + 1) (words := w2) (by
      rw [h2]
      congr 1
      funext i
      rw [show j + 1 + i = j + (i + 1) by omega])
    have hw : w.getLsbD p.toNat = !traceLevel j := by simpa using hlast
    refine ⟨(run, w) :: groups, rfl, by simp, ?_⟩
    intro i hi
    cases i with
    | zero =>
      refine ⟨by simpa using congrArg List.length hrun, ?_, by simp [hw]⟩
      intro x hx
      have : x.getLsbD p.toNat ∈ run.map (fun w => w.getLsbD p.toNat) := List.mem_map_of_mem hx
      rw [hrun] at this
      exact List.eq_of_mem_replicate this
    | succ i =>
      have := hg i (by simpa using hi)
      rw [show j + 1 + i = j + (i + 1) by omega] at this
      exact this

end Sys2Proof.Machine
end

