-- ==== Sys2Proof/Laws/Operands.lean ====
section
/-! SUPPORT. The pin operands bit by bit: what writing a function-select field changes, and the bit of a pin. -/

namespace Sys2Proof.Machine

theorem fselMask_getLsbD (p : Pin) (j : Nat) (hj : j < 32) :
    (fselMask p).getLsbD j = decide (fselShift p ≤ j ∧ j < fselShift p + 3) := by
  have h7 : (7 : Nat).testBit (j - fselShift p) = decide (j - fselShift p < 3) := Nat.testBit_two_pow_sub_one 3 _
  simp only [fselMask, BitVec.getLsbD_shiftLeft, BitVec.getLsbD_ofNat, h7]
  rw [Bool.eq_iff_iff]
  simp only [Bool.and_eq_true, Bool.not_eq_true', decide_eq_true_eq, decide_eq_false_iff_not]
  omega

theorem fselPut_getLsbD (p : Pin) (code : BitVec 3) (v : Word) (j : Nat) (hj : j < 32) :
    (fselPut p code v).getLsbD j =
      if fselShift p ≤ j ∧ j < fselShift p + 3 then code.getLsbD (j - fselShift p) else v.getLsbD j := by
  simp only [fselPut, BitVec.getLsbD_or, BitVec.getLsbD_and, BitVec.getLsbD_not, fselMask_getLsbD p j hj,
    BitVec.getLsbD_shiftLeft, BitVec.getLsbD_setWidth, hj]
  split_ifs with h
  · simp only [h, not_lt.2 h.1]
    simp
    omega
  · by_cases h1 : j < fselShift p
    · simp [h, h1]
    · have : code.getLsbD (j - fselShift p) = false := BitVec.getLsbD_of_ge _ _ (by omega)
      simp [h, this]

theorem fselShift_le (p : Pin) : fselShift p ≤ 27 := by
  simp only [fselShift, gpioPinsPerFsel, gpioBitsPerPin]; omega

theorem fselGet_fselPut_same (p : Pin) (code : BitVec 3) (v : Word) : fselGet p (fselPut p code v) = code := by
  apply BitVec.eq_of_getLsbD_eq
  intro j hj
  have := fselShift_le p
  simp only [fselGet, BitVec.getLsbD_setWidth, BitVec.getLsbD_ushiftRight,
    fselPut_getLsbD p code v (fselShift p + j) (by omega)]
  rw [if_pos (by omega)]
  simp [hj]

theorem pinBit_getLsbD (p : Pin) (j : Nat) (hj : j < 32) : (pinBit p).getLsbD j = decide (j = p.toNat) := by
  simp only [pinBit, BitVec.getLsbD_shiftLeft, BitVec.getLsbD_one, hj]
  rw [Bool.eq_iff_iff]
  simp
  omega
end Sys2Proof.Machine
end

