-- ==== Sys2Proof/Laws/PerInstr.lean ====
section
/-! SUPPORT. Statements for all instructions, one lemma per constructor: the OPC field of the encoded word is the row's
(`30_encoding.md` R91), and every command is well formed (R92, R95). -/

namespace Sys2Proof.Laws.Opcode

/-- OPC of a command (`30_encoding.md` R91). -/
def opcodeOf : Instr → BitVec 4
  | .gpioInit => 0x1
  | .setInput _ => 0x2
  | .setOutput _ => 0x3
  | .setHigh _ => 0x4
  | .setLow _ => 0x5
  | .readPin _ => 0x6
  | .readOneWire _ _ => 0x7
  | .readBme280 _ => 0x8
  | .readBmp180 _ => 0x9

/-- The encoded word carries the command's OPC, and the command is well formed. -/
def Statement (i : Instr) : Prop := opcField (encode i) = opcodeOf i ∧ i.wellFormed = true

theorem pin_le (p : Pin) : p.toNat ≤ pinMax := by have := p.isLt; simp only [pinMax]; omega

theorem addr_le (a : Addr7) : a.toNat ≤ addrMax := by have := a.isLt; simp only [addrMax]; omega

theorem gpioInit : Statement .gpioInit := ⟨by decide, rfl⟩
theorem setInput (p : Pin) : Statement (.setInput p) := ⟨by revert p; decide, decide_eq_true (pin_le p)⟩
theorem setOutput (p : Pin) : Statement (.setOutput p) := ⟨by revert p; decide, decide_eq_true (pin_le p)⟩
theorem setHigh (p : Pin) : Statement (.setHigh p) := ⟨by revert p; decide, decide_eq_true (pin_le p)⟩
theorem setLow (p : Pin) : Statement (.setLow p) := ⟨by revert p; decide, decide_eq_true (pin_le p)⟩
theorem readPin (p : Pin) : Statement (.readPin p) := ⟨by revert p; decide, decide_eq_true (pin_le p)⟩
theorem readOneWire (k : Kind) (p : Pin) : Statement (.readOneWire k p) := by
  cases k <;>
    exact ⟨by revert p; decide,
      by simp [Instr.wellFormed, Instr.toSource, SourceCommand.wellFormed, kindOfName, pin_le p]⟩
theorem readBme280 (a : Addr7) : Statement (.readBme280 a) := ⟨by revert a; decide +kernel, decide_eq_true (addr_le a)⟩
theorem readBmp180 (a : Addr7) : Statement (.readBmp180 a) := ⟨by revert a; decide +kernel, decide_eq_true (addr_le a)⟩

end Sys2Proof.Laws.Opcode
end

