-- ==== Sys2Proof/Tests/Slice0.lean ====
section
/-! SUPPORT. Named tests: words and vectors of the spec (`95_test_vectors.md`, `30_encoding.md` R94), refusals of ill-formed
written commands, and for every statement with hypotheses a state and operands that meet them all together. -/

namespace Sys2Proof.Tests

open Sys2Proof.Machine

/-! ## Decoding: words written out from R90 to R92; expected results from V20 to V37 -/

theorem test_decode_gpioInit : decode 0b0001000000000000 = .command .gpioInit := by decide
theorem test_decode_setInput : decode 0b0010000000011111 = .command (.setInput 31) := by decide
theorem test_decode_setOutput : decode 0b0011000000010001 = .command (.setOutput 17) := by decide
theorem test_decode_setHigh : decode 0b0100000000000000 = .command (.setHigh 0) := by decide
theorem test_decode_setLow : decode 0b0101000000000100 = .command (.setLow 4) := by decide
theorem test_decode_readPin : decode 0b0110000000000100 = .command (.readPin 4) := by decide
theorem test_decode_readOneWire :
    decode 0b0111000100011111 = .command (.readOneWire .type22 31) ∧
    decode 0b0111000000010110 = .command (.readOneWire .type11 22) := by decide
theorem test_decode_readBme280 :
    decode 0b1000000001110110 = .command (.readBme280 0x76) ∧
    decode 0b1000000001111111 = .command (.readBme280 0x7F) := by decide
theorem test_decode_readBmp180 :
    decode 0b1001000001110111 = .command (.readBmp180 0x77) ∧
    decode 0b1001000000000000 = .command (.readBmp180 0x00) := by decide

theorem test_decode_illegal_opcode :
    [(0x0000 : CmdWord), 0xA000, 0xF000, 0xFFFF].all (fun w => decide (decode w = .rejected .noSuchOpcode)) := by decide
theorem test_decode_illegal_bits :
    [(0x1001 : CmdWord), 0x1100, 0x2020, 0x6080, 0x2100, 0x7204, 0x7184, 0x7120, 0x8080, 0x8176, 0x9100].all
      (fun w => decide (decode w = .rejected .mustBeZero)) := by decide
theorem test_decodeTableWord :
    decodeTableWord 16 0x3011 = some (.setOutput 17) ∧ decodeTableWord 16 0x0000 = none := by decide

/-! ## Written commands (R95): ill-formed terms are refused -/

theorem test_wellFormed_setInput : (SourceCommand.setInput 32).wellFormed = false := by decide
theorem test_wellFormed_setOutput : (SourceCommand.setOutput 32).wellFormed = false := by decide
theorem test_wellFormed_setHigh : (SourceCommand.setHigh 32).wellFormed = false := by decide
theorem test_wellFormed_setLow : (SourceCommand.setLow 32).wellFormed = false := by decide
theorem test_wellFormed_readPin : (SourceCommand.readPin 32).wellFormed = false := by decide
theorem test_wellFormed_readOneWire_pin : (SourceCommand.readOneWire "22" 32).wellFormed = false := by decide
theorem test_wellFormed_readOneWire_kind : (SourceCommand.readOneWire "DHT33" 4).wellFormed = false := by decide
theorem test_wellFormed_readBme280 : (SourceCommand.readBme280 128).wellFormed = false := by decide
theorem test_wellFormed_readBmp180 : (SourceCommand.readBmp180 128).wellFormed = false := by decide
theorem test_assemble_legal :
    (SourceCommand.readOneWire "AM2302" 31).assemble = some (.readOneWire .type22 31) ∧
    (SourceCommand.readBme280 127).assemble = some (.readBme280 127) := by decide

/-! ## Small states -/

/-- The state of an outcome that goes on. -/
def after : Host.Outcome State Fault Refusal → Option State
  | .next s => some s
  | _ => none

/-- Reset with the GPIO window mapped. -/
def ready : State := { State.reset with ginit := true }

/-- A command in flight in phase `p`. -/
def inPhase (p : Phase) : State := { State.reset with ph := p, busy := true, ginit := true, crit := p.critical }

/-- `s` with the line of every pin answering the levels `b`, then the words `rest`. -/
def scripted (b : List Bool) (rest : List Word) (s : State) : State :=
  { s with env := { s.env with lev0 := b.map (fun x => if x then 0xFFFFFFFF else 0) ++ rest } }

/-- `s` with the I2C answers `r` ready. -/
def answering (r : List (List Byte)) (s : State) : State := { s with env := { s.env with i2cRead := r } }

theorem inPhase_FlagInv (p : Phase) (hp : p ≠ .idle) : (inPhase p).FlagInv := by
  refine ⟨by simp [inPhase, hp], rfl, by simp [inPhase, State.reset], fun _ => ⟨rfl, rfl⟩, ?_, ?_, fun _ => rfl⟩ <;>
    simp [inPhase, State.reset]

theorem reset_FlagInv : State.reset.FlagInv := by unfold State.FlagInv; decide

theorem ready_FlagInv : ready.FlagInv := by unfold State.FlagInv; decide

/-! ## GPIO: V10, P6, V43, V44, P5 -/

theorem test_gpioInit_maps :
    (after (exec .gpioInit { State.reset with env := { State.reset.env with plat := [.ok 0x3F000000] } })).map
      (fun t => (t.gbase, statusWord t)) = some (0x3F200000, 0x0A) := by decide
theorem test_gpioInit_halts :
    (after (exec .gpioInit { State.reset with env := { State.reset.env with plat := [.devUnavailable] } })).map
      (fun t => (t.err, statusWord t)) = some (8, 0x26) := by decide
theorem test_setInput_keeps_other_fields :
    (after (exec (.setInput 17) { ready with gpio := ⟨#v[0, 0x00249249, 0, 0], 0⟩ })).map (fun t => t.gpio.fsel[1])
      = some 0x00049249 := by decide
theorem test_setOutput_keeps_top_bits :
    (after (exec (.setOutput 9) { ready with gpio := ⟨#v[0xC0000000, 0, 0, 0], 0⟩ })).map (fun t => t.gpio.fsel[0])
      = some 0xC8000000 := by decide
theorem test_setHigh_history :
    (after (exec (.setHigh 17) ready)).map (fun t => (t.history, t.gpio.out))
      = some ([.memWrite 7 0x00020000], 0x00020000) := by decide
theorem test_setLow_history :
    (after (exec (.setLow 17) { ready with gpio := ⟨#v[0, 0, 0, 0], 0xFFFFFFFF⟩ })).map (fun t => (t.history, t.gpio.out))
      = some ([.memWrite 10 0x00020000], 0xFFFDFFFF) := by decide
theorem test_readPin_is_not_normalised :
    (after (exec (.readPin 17) { ready with env := { ready.env with lev0 := [0x00020000] } })).map (fun t => t.pinval)
      = some (some 0x00020000) := by decide
theorem test_pin_command_without_init :
    (after (exec (.readPin 4) State.reset)).map (fun t => (t.err, statusWord t, t.history)) = some (1, 0x06, []) := by
  decide

/-! ## READ_ONEWIRE: R147's example, V50, V51, V59a, V59d -/

/-- TRACE built as (a, b | l | h0, h1) for a frame, in the vectors' notation. -/
def builtTrace (a b l h0 h1 : Count) (frame : Nat) : Vector Count 82 :=
  Vector.ofFn (fun j =>
    if j.val = 0 then a else if j.val = 1 then b else if j.val % 2 = 0 then l
    else if frame.testBit (40 - j.val / 2) then h1 else h0)

theorem test_oneWire_acknowledge :
    (after (exec (.readOneWire .type11 0) (scripted [true, true, true, false] [7] (inPhase .ow3)))).map
      (fun t => (t.ph, t.ow.cnt, t.env.lev0)) = some (.ow4, 3, [7]) := by decide +kernel
theorem test_oneWire_frame :
    (after (exec (.readOneWire .type11 0)
      { inPhase .ow5 with ow := { OneWireBuf.reset with trace := builtTrace 31999 31999 50 49 50 0x028C015FEE } })).map
      (fun t => (t.ow.acc, t.ow.thr, t.ow.frame)) = some (2000, 50, #v[0x02, 0x8C, 0x01, 0x5F, 0xEE]) := by
  decide +kernel
theorem test_oneWire_decode :
    owDecode id .type22 (builtTrace 79 79 50 26 70 0x0190806576) = some (-101 / 10, 40) := by decide +kernel
theorem test_oneWire_decode_rejects :
    owDecode id .type22 (builtTrace 0 0 0 0 0 0) = none := by decide +kernel

/-! ## READ_BME280: V5, V70, V72 -/

/-- The coefficients of V8. -/
def exampleBmeCoef : BmeCoef :=
  ⟨27504, 26435, -1000, 36477, -10685, 3024, 2855, 140, -7, 15500, -14600, 6000, 75, 370, 0, 302, 50, 30⟩

theorem test_bme280_data :
    (after (exec (.readBme280 0) (answering [[0x65, 0x5A, 0xCF, 0x7E, 0xED, 0x0F, 0x75, 0x30]] (inPhase .b6)))).map
      (fun t => (t.bme.adcP.toNat, t.bme.adcT.toNat, t.bme.adcH.toNat)) = some (415148, 519888, 30000) := by
  decide +kernel
theorem test_bme280_temperature :
    bmeTFine id (bmeVar1 id exampleBmeCoef 519888) (bmeVar2 id exampleBmeCoef 519888) = 128422 ∧
    bmeTempC id (bmeVar1 id exampleBmeCoef 519888) (bmeVar2 id exampleBmeCoef 519888) = 215456844831 / 8589934592 := by
  decide +kernel

/-! ## READ_BMP180: V80, V83 -/

theorem test_bmp180_example :
    (after (exec (.readBmp180 0)
      { inPhase .p7 with bmp := { BmpBuf.reset with
          coef := exampleBmpCoef, up := 23843, tmp := { BmpBuf.reset.tmp with b5 := 2400 } } })).map (fun t => t.resP)
      = some (some (.integer 69964)) := by decide +kernel
theorem test_bmp180_zero_divisor :
    (after (exec (.readBmp180 0)
      { inPhase .p6 with bmp := { BmpBuf.reset with coef := { exampleBmpCoef with md := -4743 }, ut := 27898 } })).map
      (fun t => (t.err, t.ph)) = some (11, .idle) := by decide +kernel

/-! ## The host's side -/

theorem test_withFetchWord :
    (after (step (ready.withFetchWord 16 0x3011))).map (fun t => (t.pinr, t.gpio.fsel[1])) = some (17, 0x00200000) := by
  decide
theorem test_upper_half_of_cmd_is_ignored :
    (after (step { ready with inputs := [.hostWrite 0 0xABCD1000] })).map (fun t => statusWord t) = some 0x0A := by decide
theorem test_halted_block_ignores_cmd :
    (after (step { State.reset with
      halt := true, done := true, err := 8, inputs := [.hostWrite 0 0x1000] })).map (fun t => (t.err, statusWord t))
      = some (8, 0x26) := by decide

/-! ## Witnesses: states and operands that meet the hypotheses of the statements -/

theorem witness_StepRunsTheDecodedCommand :
    (∃ (s : State) (v : Word) (rest : List Input) (i : Instr),
      s.inputs = .hostWrite 0 v :: rest ∧ s.busy = false ∧ s.halt = false ∧ decode (v.setWidth 16) = .command i) ∧
    (∃ (s : State) (i : Instr), s.inFlight = some i ∧ s.inputs = []) ∧
    (∃ (s : State) (i : Instr), s.inFlight = some i ∧ ∃ rest, s.inputs = .tick :: rest) ∧
    (∃ (s : State) (i : Instr), s.inFlight = some i ∧ (∃ rest, s.inputs = .awaitIdle :: rest) ∧ s.busy = true) ∧
    ∃ (w : CmdWord) (i : Instr), decode w = .command i :=
  ⟨⟨{ ready with inputs := [.hostWrite 0 0xFFFF907F] }, 0xFFFF907F, [], .readBmp180 127, rfl, rfl, rfl, by decide⟩,
    ⟨inPhase .b7, _, rfl, rfl⟩, ⟨{ inPhase .ow0 with inputs := [.tick] }, _, rfl, [], rfl⟩,
    ⟨{ inPhase .p1 with inputs := [.awaitIdle] }, _, rfl, ⟨[], rfl⟩, rfl⟩, 0x1000, .gpioInit, by decide⟩

theorem witness_CommandInFlightIsRefused :
    (∃ (s : State) (v : Word) (rest : List Input), s.inputs = .hostWrite 0 v :: rest ∧ s.busy = true) ∧
    ∃ (s : State) (i j : Instr), s.inFlight = some j ∧ j ≠ i :=
  ⟨⟨{ inPhase .b1 with inputs := [.hostWrite 0 0x1000] }, _, _, rfl, rfl⟩,
    inPhase .b1, .readBme280 1, .readBme280 0, rfl, by decide⟩

theorem witness_InputsWithoutEffect :
    (∃ (s : State) (v : Word) (rest : List Input),
      s.inputs = .hostWrite 0 v :: rest ∧ s.busy = false ∧ s.halt = true) ∧
    (∃ (s : State) (n : BitVec 3) (v : Word) (rest : List Input), s.inputs = .hostWrite n v :: rest ∧ n ≠ 0) ∧
    ∃ s : State, s.inputs = [] ∧ s.ph = .idle :=
  ⟨⟨{ State.reset with halt := true, inputs := [.hostWrite 0 0] }, _, _, rfl, rfl, rfl⟩,
    ⟨{ State.reset with inputs := [.hostWrite 7 0] }, _, _, _, rfl, by decide⟩, State.reset, rfl, rfl⟩

theorem witness_IllegalWordFails :
    ∃ (s : State) (v : Word) (rest : List Input) (r : Reject), s.FlagInv ∧ s.inputs = .hostWrite 0 v :: rest ∧
      s.busy = false ∧ s.halt = false ∧ decode (v.setWidth 16) = .rejected r :=
  ⟨{ State.reset with inputs := [.hostWrite 0 0] }, _, _, .noSuchOpcode, reset_FlagInv, rfl, rfl, rfl, by decide⟩

/-- Of StatusShowsTheFlags and HostReadsPresentTheRegisters. -/
theorem witness_HostReads :
    (∃ (s : State) (v : Word) (rest : List Input), s.inputs = .hostWrite 1 v :: rest) ∧
    (∃ (s : State) (rest : List Input), s.inputs = .hostRead 1 :: rest) ∧
    (∃ (s : State) (rest : List Input), s.inputs = .hostRead 7 :: rest ∧ (7 : BitVec 3) ≠ 1 ∧ s.busy = false) ∧
    ∃ (s : State) (rest : List Input), s.inputs = .hostRead 0 :: rest ∧ (0 : BitVec 3) ≠ 1 ∧ s.busy = true :=
  ⟨⟨{ ready with inputs := [.hostWrite 1 0xFFFFFFFF] }, _, _, rfl⟩, ⟨{ inPhase .ow3 with inputs := [.hostRead 1] }, _, rfl⟩,
    ⟨{ State.reset with inputs := [.hostRead 7] }, _, rfl, by decide, rfl⟩,
    { inPhase .ow3 with inputs := [.hostRead 0] }, _, rfl, by decide, rfl⟩

theorem witness_GpioInit :
    (∃ (s : State) (base : Nat), s.ph = .idle ∧ s.ginit = false ∧ nextPlat s = .ok base) ∧
    (∃ s : State, s.ph = .idle ∧ s.ginit = true) ∧
    ∀ a : PlatAnswer, ∃ s : State, s.ph = .idle ∧ s.crit = false ∧ s.ginit = false ∧ nextPlat s = a :=
  ⟨⟨{ State.reset with env := { State.reset.env with plat := [.ok 0] } }, 0, rfl, rfl, rfl⟩, ⟨ready, rfl, rfl⟩,
    fun a => ⟨{ State.reset with env := { State.reset.env with plat := [a] } }, rfl, rfl, rfl, rfl⟩⟩

/-- Of SetInputClearsTheField, SetOutputWritesTheField, PinLevelCommandsChangeOneLatch, ReadPinMasksTheLevel,
DirectionDecidesTheDriver; and of PinCommandsNeedInit. Any pin. -/
theorem witness_PinCommands :
    (∃ s : State, s.ph = .idle ∧ s.ginit = true) ∧ ∃ s : State, s.ph = .idle ∧ s.crit = false ∧ s.ginit = false :=
  ⟨⟨ready, rfl, rfl⟩, State.reset, rfl, rfl, rfl⟩

theorem witness_CompoundCommandsAreAccepted : ∃ s : State, s.ph = .idle := ⟨State.reset, rfl⟩

theorem witness_OneWireChecksInitFirst :
    (∃ s : State, s.ph = .ow0 ∧ s.FlagInv ∧ s.ginit = true) ∧ ∃ s : State, s.ph = .ow0 ∧ s.FlagInv ∧ s.ginit = false := by
  refine ⟨⟨inPhase .ow0, rfl, inPhase_FlagInv _ (by decide), rfl⟩, { inPhase .ow0 with ginit := false }, rfl, ?_, rfl⟩
  unfold State.FlagInv
  decide

theorem witness_OneWireRequest :
    (∃ s : State, s.ph = .ow1a) ∧ (∃ s : State, s.ph = .ow1b) ∧ ∃ s : State, s.ph = .ow2 ∧ s.crit = false :=
  ⟨⟨inPhase .ow1a, rfl⟩, ⟨inPhase .ow1b, rfl⟩, inPhase .ow2, rfl, rfl⟩

/-- A line that stays for 31999 polls and changes, and one that stays for 32000 (R146's two boundaries). -/
theorem witness_SpinWhileCountsPolls (level : Bool) :
    ∃ (run : List Word) (w : Word), (∀ x ∈ run, x.getLsbD 31 = level) ∧ w.getLsbD 31 ≠ level ∧ run.length = 31999 ∧
      (∃ s : State, s.env.lev0 = run ++ w :: []) ∧
      (∀ x ∈ (if level then 0xFFFFFFFF else 0) :: run, x.getLsbD 31 = level) ∧
      ∃ s : State, s.env.lev0 = ((if level then 0xFFFFFFFF else 0) :: run) ++ [] := by
  refine ⟨List.replicate 31999 (if level then 0xFFFFFFFF else 0), if level then 0 else 0xFFFFFFFF, ?_, ?_, ?_,
    ⟨{ State.reset with env := { State.reset.env with lev0 := _ } }, rfl⟩, ?_,
    { State.reset with env := { State.reset.env with lev0 := _ } }, rfl⟩
  · intro x hx
    rw [List.eq_of_mem_replicate hx]
    cases level <;> decide
  · cases level <;> decide
  · exact List.length_replicate
  · intro x hx
    rcases List.mem_cons.1 hx with rfl | hx
    · cases level <;> decide
    · rw [List.eq_of_mem_replicate hx]
      cases level <;> decide

theorem witness_OneWireAcknowledge :
    (∃ (s : State) (run : List Word) (w : Word), s.ph = .ow3 ∧ s.crit = true ∧
      (∀ x ∈ run, x.getLsbD s.pinr.toNat = true) ∧ s.env.lev0 = run ++ w :: [] ∧ w.getLsbD s.pinr.toNat = false ∧
      run.length = 31999) ∧
    ∃ (s : State) (run : List Word), s.ph = .ow3 ∧ s.crit = true ∧ (∀ x ∈ run, x.getLsbD s.pinr.toNat = true) ∧
      s.env.lev0 = run ++ [] ∧ run.length = 32000 := by
  have high : ∀ n, ∀ x ∈ List.replicate n (0xFFFFFFFF : Word), x.getLsbD (0 : Pin).toNat = true := by
    intro n x hx
    rw [List.eq_of_mem_replicate hx]
    decide
  exact ⟨⟨{ inPhase .ow3 with env := { State.reset.env with lev0 := List.replicate 31999 0xFFFFFFFF ++ 0 :: [] } },
      _, 0, rfl, rfl, high 31999, rfl, by decide, List.length_replicate⟩,
    { inPhase .ow3 with env := { State.reset.env with lev0 := List.replicate 32000 0xFFFFFFFF ++ [] } },
      _, rfl, rfl, high 32000, rfl, List.length_replicate⟩

/-- A line that follows any list of levels, on any pin. -/
theorem levels_of_script (p : Pin) (b : List Bool) :
    (b.map (fun x => if x then (0xFFFFFFFF : Word) else 0)).map (fun w => w.getLsbD p.toNat) = b := by
  have hp := p.isLt
  have h : ∀ j, j < 32 → (0xFFFFFFFF#32).getLsbD j = true := by decide
  rw [List.map_map]
  refine (List.map_congr_left ?_).trans (List.map_id b)
  intro x _
  cases x
  · simp
  · simpa using h p.toNat hp

/-- Of CaptureRecordsRunLengths, at the shortest and at the longest runs. -/
theorem witness_CaptureRecordsRunLengths (a n : Nat) (hn : n = 1 ∧ a = 0 ∨ n = 32000 ∧ a = 31999) :
    ∃ (s : State) (l h : Nat → Nat) (words rest : List Word), s.ph = .ow3 ∧ a ≤ 31999 ∧
      (∀ i < 41, 1 ≤ l i ∧ l i ≤ 32000 ∧ 1 ≤ h i ∧ h i ≤ 32000) ∧
      words.map (fun w => w.getLsbD s.pinr.toNat) = captureSamples a l h ∧ s.env.lev0 = words ++ rest :=
  ⟨scripted (captureSamples a (fun _ => n) (fun _ => n)) [7] (inPhase .ow3), fun _ => n, fun _ => n, _, [7], rfl,
    by omega, fun _ _ => by dsimp only; omega, levels_of_script 0 _, rfl⟩

/-- Of OneWireWholeCommand, at the shortest and at the longest runs. -/
theorem witness_OneWireWholeCommand (a n : Nat) (hn : n = 1 ∧ a = 0 ∨ n = 32000 ∧ a = 31999) (p : Pin) :
    ∃ (s : State) (l h : Nat → Nat) (words rest : List Word), s.ph = .idle ∧ s.FlagInv ∧ s.ginit = true ∧ s.inputs = [] ∧
      a ≤ 31999 ∧ (∀ i < 41, 1 ≤ l i ∧ l i ≤ 32000 ∧ 1 ≤ h i ∧ h i ≤ 32000) ∧
      words.map (fun w => w.getLsbD p.toNat) = captureSamples a l h ∧ s.env.lev0 = words ++ rest :=
  ⟨scripted (captureSamples a (fun _ => n) (fun _ => n)) [7] ready, fun _ => n, fun _ => n, _, [7], rfl, ready_FlagInv,
    rfl, rfl, by omega, fun _ _ => by dsimp only; omega, levels_of_script p _, rfl⟩

/-- A timeout in any of the 82 measurements, after the shortest or the longest counts. -/
theorem witness_StuckLineIsPulseTimeout (j n : Nat) (hj : j < 82) (hn : n = 0 ∨ n = 31999) :
    ∃ (s : State) (c : Nat → Nat) (words rest : List Word), s.ph = .ow4 ∧ s.crit = true ∧ j < 82 ∧
      (∀ i < j, c i ≤ 31999) ∧ words.map (fun w => w.getLsbD s.pinr.toNat) = timeoutSamples j c ∧
      s.env.lev0 = words ++ rest :=
  ⟨scripted (timeoutSamples j (fun _ => n)) [7] (inPhase .ow4), fun _ => n, _, [7], rfl, rfl, hj,
    fun _ _ => by dsimp only; omega, levels_of_script 0 _, rfl⟩

/-- The largest counts a capture can leave: ACC is 1279960 (R150). -/
theorem witness_ThresholdAndBits : ∃ s : State, s.ph = .ow5 ∧ s.TraceInv := by
  refine ⟨{ inPhase .ow5 with ow := { OneWireBuf.reset with trace := Vector.replicate 82 31999 } }, rfl, ?_⟩
  intro _ j hj
  have hj : j < 82 := hj
  simp [Vector.getD, hj, owMaxspin]

theorem witness_PreambleIsExcluded :
    ∃ t u : Vector Count 82, t ≠ u ∧ ∀ j, 2 ≤ j → t.getD j 0 = u.getD j 0 := by
  refine ⟨Vector.replicate 82 0, (Vector.replicate 82 0).set 1 31999, by decide, ?_⟩
  intro j hj
  have : 1 ≠ j := by omega
  simp [Vector.getD, this]

theorem witness_ChecksumDecides :
    (∃ s : State, s.ph = .ow6 ∧ s.crit = true ∧ s.ow.frame[4].toNat ≠
      (s.ow.frame[0].toNat + s.ow.frame[1].toNat + s.ow.frame[2].toNat + s.ow.frame[3].toNat) % 256) ∧
    ∃ s : State, s.ph = .ow6 ∧ s.crit = true ∧ s.ow.frame[4].toNat =
      (s.ow.frame[0].toNat + s.ow.frame[1].toNat + s.ow.frame[2].toNat + s.ow.frame[3].toNat) % 256 :=
  ⟨⟨{ inPhase .ow6 with ow := { OneWireBuf.reset with frame := #v[0xFF, 0xFF, 0xFF, 0xFF, 0xFF] } }, rfl, rfl, by decide⟩,
    { inPhase .ow6 with ow := { OneWireBuf.reset with frame := #v[0xFF, 1, 0, 0, 0] } }, rfl, rfl, by decide⟩

theorem witness_OneWireConversion :
    (∃ s : State, s.ph = .ow7 ∧ s.kindr = .type22) ∧ ∃ s : State, s.ph = .ow7 ∧ s.kindr = .type11 :=
  ⟨⟨{ inPhase .ow7 with kindr := .type22 }, rfl, rfl⟩, inPhase .ow7, rfl, rfl⟩

theorem witness_DecodeIsAFunctionOfTheTrace : ∃ s : State, s.FlagInv ∧ s.inputs = [] ∧ s.ph = .ow5 :=
  ⟨inPhase .ow5, inPhase_FlagInv _ (by decide), rfl, rfl⟩

theorem witness_BusOpenDecides (ok : Bool) (p : Phase) (hp : p = .b1 ∨ p = .p1) :
    ∃ s : State, s.FlagInv ∧ s.ph = p ∧ nextOpen s = ok :=
  ⟨{ inPhase p with env := { State.reset.env with i2cOpen := [ok] } },
    inPhase_FlagInv p (by rcases hp with rfl | rfl <;> decide), rfl, rfl⟩

/-- Of ChipIdIsDiagnostic, ShortReadIsIoError, BmeCalibrationAssembly, BmeConfigurationAndData, BmpCalibrationAssembly and
BmpMeasurements: a read of any length answered in full, and one answered one byte short, in any phase in flight. -/
theorem witness_I2cReads (p : Phase) (hp : p ≠ .idle) (n : Nat) (hn : 0 < n) :
    (∃ (s : State) (b : List Byte), s.FlagInv ∧ s.ph = p ∧ nextRead n s = some b ∧ b.length = n) ∧
    ∃ s : State, s.FlagInv ∧ s.ph = p ∧ nextRead n s = none := by
  refine ⟨⟨answering [List.replicate n 0xFF] (inPhase p), List.replicate n 0xFF, inPhase_FlagInv p hp, rfl, ?_, ?_⟩,
    answering [List.replicate (n - 1) 0] (inPhase p), inPhase_FlagInv p hp, rfl, ?_⟩
  · simp [nextRead, answering, answer, fullRead]
  · simp
  · simp [nextRead, answering, answer, fullRead]
    omega

/-- Of BmeCalibrationAssembly's second clause, both reads of B4 answered in full; and of ShortReadIsIoError's third, the
second read of B4 one byte short. -/
theorem witness_BmeHumidityCalibration :
    (∃ (s : State) (a h : List Byte), s.ph = .b4 ∧ nextRead 1 s = some a ∧ nextRead 7 (s.afterRead 0xA1 1) = some h) ∧
    ∃ (s : State) (a : List Byte), s.FlagInv ∧ s.ph = .b4 ∧ nextRead 1 s = some a ∧
      nextRead 7 (s.afterRead 0xA1 1) = none :=
  ⟨⟨answering [[0x4B], [0x72, 0x01, 0x00, 0x12, 0x2E, 0x03, 0x1E]] (inPhase .b4), [0x4B],
      [0x72, 0x01, 0x00, 0x12, 0x2E, 0x03, 0x1E], rfl, rfl, rfl⟩,
    answering [[0x4B], [0x72, 0x01, 0x00, 0x12, 0x2E, 0x03]] (inPhase .b4), [0x4B], inPhase_FlagInv .b4 (by decide), rfl,
    rfl, rfl⟩

/-- Of BmeCommitIsAllOrNothing (its other operands are defined by these) and of BmeHumidityIsClamped. -/
theorem witness_BmeCommitIsAllOrNothing :
    ∃ s : State, s.ph = .b7 ∧ s.FlagInv ∧ ∃ i t, exec i s = .next t :=
  ⟨inPhase .b7, rfl, inPhase_FlagInv _ (by decide), _, _, exec_inFlight (i := .readBme280 0) rfl⟩

theorem witness_BmeFormulas : ∃ (a b v1 : Rat) (tFine : Int), 0 ≤ a + b ∧ v1 = tFine / 2 - 64000 :=
  ⟨0, 0, -64000, 0, by norm_num, by norm_num⟩

/-- P6 in flight with V7's coefficients, `md` in the place of MD. -/
def temperatureState (md : Int) : State :=
  { inPhase .p6 with bmp := { BmpBuf.reset with coef := { exampleBmpCoef with md := md }, ut := 27898 } }

/-- Both cases of BmpTemperatureCompensation: V7, and V83 where den is 0. -/
theorem witness_BmpTemperatureCompensation :
    (∃ (s : State) (diff x1 den x2 : Int), s.ph = .p6 ∧ s.FlagInv ∧ diff = s.bmp.ut.toNat - s.bmp.coef.ac6 ∧
      x1 = diff * s.bmp.coef.ac5 / 32768 ∧ den = x1 + s.bmp.coef.md ∧ x2 = (s.bmp.coef.mc * 2048).tdiv den ∧ den ≠ 0 ∧
      ∀ z ∈ [diff, diff * s.bmp.coef.ac5, den, s.bmp.coef.mc * 2048, x2, x1 + x2, x1 + x2 + 8], FitsS32 z) ∧
    ∃ (s : State) (diff x1 den x2 : Int), s.ph = .p6 ∧ s.FlagInv ∧ diff = s.bmp.ut.toNat - s.bmp.coef.ac6 ∧
      x1 = diff * s.bmp.coef.ac5 / 32768 ∧ den = x1 + s.bmp.coef.md ∧ x2 = (s.bmp.coef.mc * 2048).tdiv den ∧ den = 0 := by
  refine ⟨⟨temperatureState 2868, 4745, 4743, 7611, -2343, rfl, inPhase_FlagInv .p6 (by decide), by decide +kernel,
      by decide +kernel, by decide +kernel, by decide +kernel, by decide, ?_⟩,
    temperatureState (-4743), 4745, 4743, 0, 0, rfl, inPhase_FlagInv .p6 (by decide), by decide +kernel⟩
  simp [FitsS32, temperatureState, exampleBmpCoef]

/-- P7 in flight with V7's coefficients and B5, `up` in the place of UP. -/
def pressureState (up : BitVec 16) : State :=
  { inPhase .p7 with bmp := { BmpBuf.reset with
      coef := exampleBmpCoef, up := up, tmp := { BmpBuf.reset.tmp with b5 := 2400 } } }

/-- The quantities of BmpPressureCompensation. -/
def pressureQuantities (s : State) (b6 sq x3a b3 x1b x2b x3 b4 b7 p x1 x2 r : Int) : Prop :=
  b6 = s.bmp.tmp.b5 - 4000 ∧ sq = b6 * b6 / 4096 ∧
  x3a = s.bmp.coef.b2 * sq / 2048 + s.bmp.coef.ac2 * b6 / 2048 ∧ b3 = (s.bmp.coef.ac1 * 4 + x3a + 2) / 4 ∧
  x1b = s.bmp.coef.ac3 * b6 / 8192 ∧ x2b = s.bmp.coef.b1 * sq / 65536 ∧ x3 = (x1b + x2b + 2) / 4 ∧
  b4 = s.bmp.coef.ac4 * (x3 + 32768) / 32768 ∧ b7 = (s.bmp.up.toNat - b3) * 50000 ∧
  p = (if b7 < 0x80000000 then b7 * 2 / b4 else b7 / b4 * 2) ∧
  x1 = p / 256 * (p / 256) * 3038 / 65536 ∧ x2 = -7357 * p / 65536 ∧ r = p + (x1 + x2 + 3791) / 16

/-- All three outcomes of P7: V80 (the first branch of the division), V88 (the second), V86 (UP − B3 is −1). -/
theorem witness_BmpPressureCompensation :
    (∀ up ∈ [(23843 : BitVec 16), 65535], ∃ (s : State) (b6 sq x3a b3 x1b x2b x3 b4 b7 p x1 x2 r : Int),
      s.ph = .p7 ∧ s.FlagInv ∧ s.bmp.up = up ∧ pressureQuantities s b6 sq x3a b3 x1b x2b x3 b4 b7 p x1 x2 r ∧
      0 ≤ x3 + 32768 ∧ 0 ≤ s.bmp.up.toNat - b3 ∧ b4 ≠ 0 ∧
      (∀ z ∈ [b6, b6 * b6, s.bmp.coef.b2 * sq, s.bmp.coef.ac2 * b6, x3a, s.bmp.coef.ac1 * 4, s.bmp.coef.ac1 * 4 + x3a,
        s.bmp.coef.ac1 * 4 + x3a + 2, s.bmp.coef.ac3 * b6, s.bmp.coef.b1 * sq, x1b + x2b, x1b + x2b + 2, x3 + 32768,
        s.bmp.up.toNat - b3, p, p / 256 * (p / 256), p / 256 * (p / 256) * 3038, -7357 * p, x1 + x2, x1 + x2 + 3791, r],
        FitsS32 z) ∧
      (∀ z ∈ [s.bmp.coef.ac4 * (x3 + 32768), b4, b7], FitsU32 z)) ∧
    ∃ (s : State) (b6 sq x3a b3 x1b x2b x3 b4 b7 p x1 x2 r : Int),
      s.ph = .p7 ∧ s.FlagInv ∧ pressureQuantities s b6 sq x3a b3 x1b x2b x3 b4 b7 p x1 x2 r ∧
      ¬ 0 ≤ s.bmp.up.toNat - b3 := by
  refine ⟨?_, pressureState 421, -1600, 625, 57, 422, 2809, 59, 717, 33457, -50000, -3, 0, 0, 233, rfl,
    inPhase_FlagInv .p7 (by decide), by unfold pressureQuantities; decide +kernel, by decide +kernel⟩
  intro up hup
  rcases List.mem_cons.1 hup with rfl | hup
  · refine ⟨pressureState 23843, -1600, 625, 57, 422, 2809, 59, 717, 33457, 1171050000, 70003, 3454, -7859, 69964, rfl,
      inPhase_FlagInv .p7 (by decide), rfl, by unfold pressureQuantities; decide +kernel, by decide,
      by decide +kernel, by decide, ?_, ?_⟩
    · simp [FitsS32, pressureState, exampleBmpCoef]
    · simp [FitsU32, pressureState, exampleBmpCoef]
  · obtain rfl := List.mem_singleton.1 hup
    refine ⟨pressureState 65535, -1600, 625, 57, 422, 2809, 59, 717, 33457, 3255650000, 194616, 26775, -21848, 195160, rfl,
      inPhase_FlagInv .p7 (by decide), rfl, by unfold pressureQuantities; decide +kernel, by decide,
      by decide +kernel, by decide, ?_, ?_⟩
    · simp [FitsS32, pressureState, exampleBmpCoef]
    · simp [FitsU32, pressureState, exampleBmpCoef]

theorem witness_Bmp180WholeCommand :
    ∃ (s : State) (id : Byte) (c t q : List Byte) (opens : List Bool) (reads : List (List Byte)),
      s.ph = .idle ∧ s.FlagInv ∧ s.inputs = [] ∧ c.length = 22 ∧ t.length = 2 ∧ q.length = 3 ∧
      s.env.i2cOpen = true :: opens ∧ s.env.i2cRead = [id] :: c :: t :: q :: reads :=
  ⟨{ State.reset with env := { State.reset.env with
      i2cOpen := [true], i2cRead := [[0x55], List.replicate 22 0xFF, [0x6C, 0xFA], [0x5D, 0x23, 0x00]] } },
    0x55, List.replicate 22 0xFF, _, _, [], [], rfl, reset_FlagInv, rfl, rfl, rfl, rfl, rfl, rfl⟩

theorem witness_Bme280WholeCommand :
    ∃ (s : State) (id h1 : Byte) (c h d : List Byte) (opens : List Bool) (reads : List (List Byte)),
      s.ph = .idle ∧ s.FlagInv ∧ s.inputs = [] ∧ c.length = 24 ∧ h.length = 7 ∧ d.length = 8 ∧
      s.env.i2cOpen = true :: opens ∧ s.env.i2cRead = [id] :: c :: [h1] :: h :: d :: reads :=
  ⟨{ State.reset with env := { State.reset.env with
      i2cOpen := [true]
      i2cRead := [[0x60], List.replicate 24 0xFF, [0xFF], List.replicate 7 0xFF, List.replicate 8 0xFF] } },
    0x60, 0xFF, List.replicate 24 0xFF, List.replicate 7 0xFF, List.replicate 8 0xFF, [], [], rfl, reset_FlagInv, rfl,
    rfl, rfl, rfl, rfl, rfl⟩

theorem witness_EveryCommandEnds : ∃ s : State, s.ph = .idle ∧ s.FlagInv ∧ s.inputs = [] :=
  ⟨State.reset, rfl, reset_FlagInv, rfl⟩

/-- Two states that differ in a register, a buffer and the delay timer. -/
theorem witness_StaleRegistersAreUnobservable :
    ∃ s t : State, s ≠ t ∧ s.ph = .idle ∧ s.FlagInv ∧ s.forget = t.forget :=
  ⟨State.reset, { State.reset with pinr := 31, delay := 9, bmp := { BmpBuf.reset with ut := 5 } }, by decide, rfl,
    reset_FlagInv, rfl⟩

/-- Of StepKeepsFlagInv, StepKeepsMemInv, StepKeepsTraceInv, StepKeepsReleaseInv and HistoryOnlyGrows: the invariants hold
together in a state from which a step goes on. -/
theorem witness_StepKeepsInvariants :
    ∃ s t : State, s.FlagInv ∧ s.MemInv ∧ s.TraceInv ∧ s.ReleaseInv ∧ step s = .next t ∧ t.ph = .ow3 := by
  refine ⟨inPhase .ow2, _, inPhase_FlagInv _ (by decide), rfl, ?_, ⟨?_, ?_⟩, rfl, rfl⟩
  · intro h; cases h
  · intro _; rfl
  · intro h; cases h

/-- Of StepKeepsReleaseInv's second clause: the pin released, and the command in flight. -/
theorem witness_StepKeepsReleaseInv :
    ∃ s t : State, s.ReleaseInv ∧ s.ph.released = true ∧ exec (.readOneWire s.kindr s.pinr) s = .next t := by
  refine ⟨inPhase .ow6, _, ⟨?_, ?_⟩, rfl, exec_inFlight rfl⟩
  · intro _; rfl
  · intro _; exact ⟨by decide, rfl⟩

theorem witness_CritIsAlwaysReleased :
    (∃ s t : State, s.FlagInv ∧ step s = .next t ∧ t.crit = true) ∧
    (∃ s t : State, s.FlagInv ∧ step s = .next t ∧ t.ph = .idle) ∧
    (∃ s t : State, s.FlagInv ∧ step s = .next t ∧ t.done = true) ∧
    (∃ s t : State, exec (.readOneWire s.kindr s.pinr) s = .next t ∧ s.ph = .ow2) ∧
    (∀ p ∈ [Phase.ow3, .ow4, .ow5], ∃ s t : State, exec (.readOneWire s.kindr s.pinr) s = .next t ∧ s.ph = p ∧
      s.crit = true) ∧
    ∃ s t : State, exec (.readOneWire s.kindr s.pinr) s = .next t ∧ s.ph = .ow6 := by
  refine ⟨⟨inPhase .ow2, _, inPhase_FlagInv _ (by decide), rfl, rfl⟩, ⟨State.reset, _, reset_FlagInv, rfl, rfl⟩,
    ⟨inPhase .ow7, _, inPhase_FlagInv _ (by decide), rfl, rfl⟩, ⟨inPhase .ow2, _, exec_inFlight rfl, rfl⟩, ?_,
    inPhase .ow6, _, exec_inFlight rfl, rfl⟩
  intro p hp
  simp only [List.mem_cons, List.not_mem_nil, or_false] at hp
  obtain rfl | rfl | rfl := hp
  · exact ⟨inPhase .ow3, _, exec_inFlight rfl, rfl, rfl⟩
  · exact ⟨inPhase .ow4, _, exec_inFlight rfl, rfl, rfl⟩
  · exact ⟨inPhase .ow5, _, exec_inFlight rfl, rfl, rfl⟩

theorem witness_OnlyResetClearsInitAndHalt :
    (∃ (s : State) (rest : List Input), s.inputs = .reset :: rest ∧ s.busy = false) ∧
    (∃ (s : State) (rest : List Input), s.inputs = .reset :: rest ∧ s.busy = true) ∧
    ∃ s t : State, step s = .next t ∧ (∀ rest, s.inputs ≠ .reset :: rest) ∧ s.ginit = true ∧ s.halt = true :=
  ⟨⟨{ ready with inputs := [.reset] }, _, rfl, rfl⟩, ⟨{ inPhase .b1 with inputs := [.reset] }, _, rfl, rfl⟩,
    { ready with halt := true }, _, rfl, (fun _ h => by cases h), rfl, rfl⟩

theorem witness_CommandFamiliesAreIsolated :
    (∃ (s t : State) (i : Instr), (∃ a, i = .readBme280 a ∨ i = .readBmp180 a) ∧ s.FlagInv ∧ exec i s = .next t) ∧
    ∃ (s t : State) (i : Instr), (∀ a, i ≠ .readBme280 a ∧ i ≠ .readBmp180 a) ∧ exec i s = .next t :=
  ⟨⟨inPhase .b7, _, .readBme280 0, ⟨0, .inl rfl⟩, inPhase_FlagInv _ (by decide), exec_inFlight rfl⟩,
    inPhase .ow4, _, .readOneWire .type11 0, by simp, exec_inFlight rfl⟩

theorem witness_ChipIdIsKept : ∃ s t : State, step s = .next t ∧ t.chipid ≠ s.chipid :=
  ⟨answering [[0x60]] (inPhase .b2), _, rfl, by decide⟩

end Sys2Proof.Tests
end

section
/-! SUPPORT. What a phase of a compound command can do, said once: it goes on to the phase after it, fails, or ends the
command in success; and what it carries along. The sequencer's step by phase. -/

namespace Sys2Proof.Machine

/-- What the phase `p` does, whatever PH says. -/
def phaseAt (P : Params) (p : Phase) (s : State) : State :=
  match p with
  | .idle => s
  | .ow0 => phaseOw0 s
  | .ow1a => phaseOw1a s
  | .ow1b => phaseOw1b s
  | .ow2 => phaseOw2 s
  | .ow3 => phaseOw3 s
  | .ow4 => phaseOw4 s
  | .ow5 => phaseOw5 s
  | .ow6 => phaseOw6 s
  | .ow7 => phaseOw7 P.fp s
  | .b1 => phaseB1 s
  | .b2 => phaseB2 P.chipidMandatory s
  | .b3 => phaseB3 s
  | .b4 => phaseB4 s
  | .b5 => phaseB5 P s
  | .b6 => phaseB6 s
  | .b7 => phaseB7 P.fp s
  | .p1 => phaseP1 s
  | .p2 => phaseP2 P.chipidMandatory s
  | .p3 => phaseP3 s
  | .p4 => phaseP4 s
  | .p5 => phaseP5 s
  | .p6 => phaseP6 s
  | .p7 => phaseP7 s

theorem phaseOf_eq_phaseAt (s : State) : phaseOf s = phaseAt Config.params s.ph s := by
  cases h : s.ph <;> simp only [phaseOf, State.inFlight, oneWirePhase, bme280Phase, bmp180Phase, h, phaseAt]

theorem sequencerStep_eq (s : State) : sequencerStep s = .next (phaseOf s) := by
  unfold sequencerStep
  split
  · rename_i h
    simp only [phaseOf, h]
  · rename_i h
    exact exec_inFlight h

/-- The phase after `p` where the command goes on (`10_state.md` R22); IDLE after the last one. -/
def Phase.following : Phase → Phase
  | .idle => .idle
  | .ow0 => .ow1a
  | .ow1a => .ow1b
  | .ow1b => .ow2
  | .ow2 => .ow3
  | .ow3 => .ow4
  | .ow4 => .ow5
  | .ow5 => .ow6
  | .ow6 => .ow7
  | .ow7 => .idle
  | .b1 => .b2
  | .b2 => .b3
  | .b3 => .b4
  | .b4 => .b5
  | .b5 => .b6
  | .b6 => .b7
  | .b7 => .idle
  | .p1 => .p2
  | .p2 => .p3
  | .p3 => .p4
  | .p4 => .p5
  | .p5 => .p6
  | .p6 => .p7
  | .p7 => .idle

/-- What the body of phase `p` leaves as it was, before the command goes on or ends: the flags but CRIT, ERR, and CHIPID
unless the phase is a chip-ID read. -/
def State.carried (p : Phase) (s : State) : Bool × Bool × Bool × Bool × Byte × Option Byte :=
  (s.busy, s.done, s.ginit, s.halt, s.err,
    match p with
    | .b2 | .p2 => none
    | _ => s.chipid)

theorem State.carried_eq {p : Phase} {s u : State} (h : u.carried p = s.carried p) :
    u.busy = s.busy ∧ u.done = s.done ∧ u.ginit = s.ginit ∧ u.halt = s.halt ∧ u.err = s.err ∧
      (p ≠ .b2 → p ≠ .p2 → u.chipid = s.chipid) := by
  simp only [State.carried, Prod.mk.injEq] at h
  obtain ⟨hb, hd, hg, hh, he, hi⟩ := h
  exact ⟨hb, hd, hg, hh, he, fun h2 h2' => by simpa [h2, h2'] using hi⟩

/-- The three ways a phase of a compound command can turn out. CRIT moves only with a phase that goes on. -/
inductive PhaseOutcome (p : Phase) (s : State) : State → Prop where
  | goesOn {u : State} (hp : p.following ≠ .idle) (hu : u.carried p = s.carried p) (hr : u.noResults = s.noResults)
      (hc : s.crit = p.critical → u.crit = p.following.critical)
      (hg : (p.usesGpio = true → s.ginit = true) → p.following.usesGpio = true → u.ginit = true) :
      PhaseOutcome p s (gotoPhase p.following u)
  | fails {u : State} {k : Failure} (hu : u.carried p = s.carried p) (hk : k.halts = false) :
      PhaseOutcome p s (fail k u)
  | succeeds {u : State} (hp : p.following = .idle) (hu : u.carried p = s.carried p) (hc : u.crit = s.crit) :
      PhaseOutcome p s (finish u)

variable {s : State}

/-- A mandatory read of phase `p` fails, or the phase turns out as the use of the bytes does. -/
theorem mandatoryRead_outcome {p : Phase} {r : Byte} {n : Nat} {use : List Byte → State → State} {s' : State}
    (hs : s'.carried p = s.carried p) (huse : ∀ b, PhaseOutcome p s (use b (i2cRead r n s').2)) :
    PhaseOutcome p s (mandatoryRead r n use s') := by
  obtain ⟨-, h⟩ | ⟨b, -, h⟩ := mandatoryRead_cases r n use s' <;> rw [h]
  · exact .fails hs rfl
  · exact huse b

/-- A computation of phase `p` over the BMP180 temporaries fails, or the phase turns out as what follows it does. -/
theorem bmpCompute_outcome {p : Phase} {lines : List BmpLine} {next : State → State}
    (hnext : ∀ tmp, PhaseOutcome p s (next { s with bmp := { s.bmp with tmp := tmp } })) :
    PhaseOutcome p s (bmpCompute lines next s) := by
  obtain ⟨t, rfl, ⟨-, h⟩ | ⟨-, h⟩⟩ := bmpCompute_cases lines next s <;> rw [h]
  · exact hnext _
  · exact .fails rfl rfl

theorem phaseOw0_outcome : PhaseOutcome .ow0 s (phaseOw0 s) := by
  unfold phaseOw0
  split
  · rename_i hg
    exact .goesOn (by decide) rfl rfl id fun _ _ => hg
  · exact .fails rfl rfl

theorem phaseOw3_outcome : PhaseOutcome .ow3 s (phaseOw3 s) := by
  obtain ⟨e, c, h, hu, -⟩ := spinWhile_frame s.pinr true s
  unfold phaseOw3
  rw [hu]
  split
  · exact .fails rfl rfl
  · exact .goesOn (by decide) rfl rfl id id

theorem phaseOw4_outcome : PhaseOutcome .ow4 s (phaseOw4 s) := by
  obtain ⟨e, o, h, hu, -⟩ := captureFrom_frame s.pinr owTraceLen 0 (clearTrace s)
  unfold phaseOw4
  rw [hu]
  split
  · exact .goesOn (by decide) rfl rfl id id
  · exact .fails rfl rfl

theorem phaseOw6_outcome : PhaseOutcome .ow6 s (phaseOw6 s) := by
  unfold phaseOw6
  split
  · exact .fails rfl rfl
  · exact .goesOn (by decide) rfl rfl (fun _ => rfl) id

/-- Opening the bus, in B1 and in P1. -/
theorem busOpen_outcome {p : Phase} (hp : p = .b1 ∨ p = .p1) :
    PhaseOutcome p s
      (if (i2cOpen s).1 then gotoPhase p.following (i2cOpen s).2 else fail .busOpenFailure (i2cOpen s).2) := by
  split
  · obtain rfl | rfl := hp <;> exact .goesOn (by decide) rfl rfl id id
  · exact .fails rfl rfl

/-- The chip-ID read, in B2 and in P2: the one phase that may write CHIPID. -/
theorem chipIdPhase_outcome {p : Phase} {m : Bool} {r : Byte} (hp : p = .b2 ∨ p = .p2) :
    PhaseOutcome p s (chipIdPhase m r p.following s) := by
  obtain ⟨b, -, h⟩ | ⟨-, -, h⟩ | ⟨-, -, h⟩ := chipIdPhase_cases m r p.following s <;> rw [h]
  · obtain rfl | rfl := hp <;> exact .goesOn (by decide) rfl rfl id id
  · exact .fails rfl rfl
  · obtain rfl | rfl := hp <;> exact .goesOn (by decide) rfl rfl id id

theorem phaseB7_outcome (fp : Rat → Rat) : PhaseOutcome .b7 s (phaseB7 fp s) := by
  dsimp only [phaseB7]
  split
  · exact .fails rfl rfl
  · exact .succeeds rfl rfl rfl

/-- The two phases of the start signal move the peripheral's registers, the delay timer and the history. -/
theorem phaseOw1a_frame (s : State) :
    ∃ g d h, phaseOw1a s = gotoPhase .ow1b { s with gpio := g, delay := d, history := h } := ⟨_, _, _, rfl⟩

theorem phaseOw1b_frame (s : State) :
    ∃ g d h, phaseOw1b s = gotoPhase .ow2 { s with gpio := g, delay := d, history := h } := ⟨_, _, _, rfl⟩

theorem phaseOw2_frame (s : State) :
    ∃ g h, phaseOw2 s = gotoPhase .ow3 { s with crit := true, gpio := g, history := h } := ⟨_, _, rfl⟩

theorem phaseB5_outcome (P : Params) : PhaseOutcome .b5 s (phaseB5 P s) :=
  .goesOn (p := .b5) (by decide) (by simp [State.carried]) (by simp [State.noResults]) (by simp; exact id) nofun

/-- A measurement request of P4 or P5 moves the sensors' registers, the delay timer and the history. -/
theorem request_frame (us : Nat) (r v : Byte) (s : State) :
    ∃ m d h, wait us (i2cWrite r v s) = { s with sensors := m, delay := d, history := h } := ⟨_, _, _, rfl⟩

/-- Everything a phase can do. -/
theorem phaseAt_outcome (P : Params) {p : Phase} (hp : p ≠ .idle) : PhaseOutcome p s (phaseAt P p s) := by
  cases p <;> simp only [phaseAt]
  case idle => exact absurd rfl hp
  case ow0 => exact phaseOw0_outcome
  case ow1a =>
    obtain ⟨g, d, h, e⟩ := phaseOw1a_frame s
    exact e ▸ .goesOn (p := .ow1a) (by decide) rfl rfl id id
  case ow1b =>
    obtain ⟨g, d, h, e⟩ := phaseOw1b_frame s
    exact e ▸ .goesOn (p := .ow1b) (by decide) rfl rfl id id
  case ow2 =>
    obtain ⟨g, h, e⟩ := phaseOw2_frame s
    exact e ▸ .goesOn (p := .ow2) (by decide) rfl rfl (fun _ => rfl) id
  case ow3 => exact phaseOw3_outcome
  case ow4 => exact phaseOw4_outcome
  case ow5 => exact .goesOn (p := .ow5) (by decide) rfl rfl id id
  case ow6 => exact phaseOw6_outcome
  case ow7 => exact .succeeds (p := .ow7) rfl rfl rfl
  case b1 => exact busOpen_outcome (.inl rfl)
  case b2 => exact chipIdPhase_outcome (.inl rfl)
  case b3 | b6 | p3 => exact mandatoryRead_outcome rfl fun _ => .goesOn (by decide) rfl rfl id id
  case b4 =>
    exact mandatoryRead_outcome rfl fun _ => mandatoryRead_outcome rfl fun _ => .goesOn (by decide) rfl rfl id id
  case b5 =>
    exact phaseB5_outcome P
  case b7 => exact phaseB7_outcome P.fp
  case p1 => exact busOpen_outcome (.inr rfl)
  case p2 => exact chipIdPhase_outcome (.inr rfl)
  case p4 =>
    obtain ⟨m, d, h, e⟩ := request_frame bmpTWaitUs bmpRegCtrl bmpValCtrlT s
    rw [phaseP4, e]
    exact mandatoryRead_outcome rfl fun _ => .goesOn (by decide) rfl rfl id id
  case p5 =>
    obtain ⟨m, d, h, e⟩ := request_frame bmpPWaitUs bmpRegCtrl bmpValCtrlP s
    rw [phaseP5, e]
    exact mandatoryRead_outcome rfl fun _ => .goesOn (by decide) rfl rfl id id
  case p6 => exact bmpCompute_outcome fun _ => .goesOn (by decide) rfl rfl id id
  case p7 =>
    simp only [phaseP7]
    exact bmpCompute_outcome fun _ => .succeeds rfl rfl rfl

end Sys2Proof.Machine
end

section
/-! SUPPORT. What a command can do when it is handed over at IDLE, and the moves of the host, said once. -/

namespace Sys2Proof.Machine

variable {s : State}

/-- The three ways a command accepted at IDLE can turn out: a compound command is in its first phase, a single one has
failed or succeeded. -/
inductive StartOutcome (s : State) : State → Prop where
  | accepted {u : State} {q : Phase} (hq : q = .ow0 ∨ q = .b1 ∨ q = .p1)
      (hu : u.carried .idle = (accept s).carried .idle) (hr : u.noResults = true) (hc : u.crit = s.crit) :
      StartOutcome s (gotoPhase q u)
  | fails {u : State} {k : Failure} (hh : u.halt = s.halt) (hi : u.chipid = s.chipid) (hg : u.ginit = s.ginit)
      (hk : k.halts = true → s.ginit = false) : StartOutcome s (fail k u)
  | succeeds {u : State} (hh : u.halt = s.halt) (hi : u.chipid = s.chipid) (he : u.err = 0) (hc : u.crit = s.crit) :
      StartOutcome s (finish u)

theorem gpioInitBody_outcome : StartOutcome s (gpioInitBody (accept s)) := by
  unfold gpioInitBody
  split
  · exact .succeeds rfl rfl rfl rfl
  · rename_i hg
    have hg : s.ginit = false := by simpa using hg
    split
    · exact .succeeds rfl rfl rfl rfl
    all_goals exact .fails rfl rfl rfl fun _ => hg

/-- A pin command whose operation moves neither HALT, CHIPID, ERR nor CRIT. -/
theorem pinBody_outcome {p : Pin} {op : State → State}
    (hop : ∀ t, (op t).halt = t.halt ∧ (op t).chipid = t.chipid ∧ (op t).err = t.err ∧ (op t).crit = t.crit) :
    StartOutcome s (pinBody p op (accept s)) := by
  obtain ⟨hh, hi, he, hc⟩ := hop { accept s with pinr := p }
  unfold pinBody
  split
  · exact .succeeds hh hi he hc
  · exact .fails rfl rfl rfl nofun

/-- Everything a command can do at IDLE. -/
theorem startOf_outcome (i : Instr) : StartOutcome s (startOf i s) := by
  cases i with
  | gpioInit => exact gpioInitBody_outcome
  | setInput _ | setOutput _ | setHigh _ | setLow _ | readPin _ =>
    exact pinBody_outcome fun _ => ⟨rfl, rfl, rfl, rfl⟩
  | readOneWire k p => exact .accepted (u := { accept s with kindr := k, pinr := p }) (.inl rfl) rfl rfl rfl
  | readBme280 a => exact .accepted (u := { accept s with addr7 := a }) (.inr (.inl rfl)) rfl rfl rfl
  | readBmp180 a => exact .accepted (u := { accept s with addr7 := a }) (.inr (.inr rfl)) rfl rfl rfl

/-- A host read moves the host's log and the draw counter, and nothing else. -/
theorem hostRead_frame (repr : ResNum → Word) (n : BitVec 3) (s : State) :
    ∃ e l, hostRead repr n s = { s with env := e, hostLog := l } := by
  unfold hostRead
  split
  · exact ⟨s.env, _, rfl⟩
  · exact ⟨_, _, rfl⟩

theorem step_noInput (h : s.inputs = []) : step s = sequencerStep s := by
  rw [step, stepOnce, h]

theorem step_awaitIdle_busy {rest : List Input} (h : s.inputs = .awaitIdle :: rest) (hb : s.busy = true) :
    step s = sequencerStep s := by
  rw [step, stepOnce, h]
  exact if_pos hb

theorem step_awaitIdle_ready {rest : List Input} (h : s.inputs = .awaitIdle :: rest) (hb : s.busy = false) :
    step s = .next { s with inputs := rest } := by
  rw [step, stepOnce, h]
  exact if_neg (by simp [hb])

/-- An input other than the host's polling is taken off the list and acts. -/
theorem step_input {i : Input} {rest : List Input} (h : s.inputs = i :: rest) (hi : i ≠ .awaitIdle) :
    step s = inputStep i { s with inputs := rest } := by
  unfold step stepOnce
  rw [h]
  cases i <;> simp_all

/-! The bits of STATUS. -/

theorem statusWord_eq_concat (s : State) :
    statusWord s =
      ((((((0#26).concat s.halt).concat s.crit).concat s.ginit).concat (errf s)).concat s.done).concat s.busy := rfl

theorem statusWord_getLsbD (s : State) (j : Nat) :
    (statusWord s).getLsbD j = [s.busy, s.done, errf s, s.ginit, s.crit, s.halt].getD j false := by
  rw [statusWord_eq_concat]
  simp only [BitVec.getLsbD_concat, BitVec.getLsbD_zero]
  match j with
  | 0 | 1 | 2 | 3 | 4 | 5 => rfl
  | j + 6 => simp

end Sys2Proof.Machine
end

section
/-! The invariant of the flags (`10_state.md` R24, R26; `60_exceptions.md` R265 to R267), CRIT and CHIPID. -/

namespace Sys2Proof.Machine

variable {s t : State}

theorem reset_flagInv : State.reset.FlagInv := by
  unfold State.FlagInv
  decide

theorem State.FlagInv.idle_of_not_busy (hi : s.FlagInv) (hb : s.busy = false) : s.ph = .idle := by
  obtain ⟨hbusy, -⟩ := hi
  simpa [hb] using hbusy

/-- What the invariant says of a command in flight. -/
theorem State.FlagInv.inFlight (hi : s.FlagInv) (hp : s.ph ≠ .idle) :
    s.busy = true ∧ s.done = false ∧ s.halt = false ∧ s.err = 0 ∧ s.noResults = true ∧
    s.crit = s.ph.critical ∧ (s.ph.usesGpio = true → s.ginit = true) := by
  obtain ⟨hbusy, hcrit, hdone, hclear, -, hhalt, hginit⟩ := hi
  have hb : s.busy = true := hbusy.2 hp
  have hd : s.done = false := by simpa [hb] using hdone
  refine ⟨hb, hd, ?_, (hclear hb).1, (hclear hb).2, hcrit, hginit⟩
  simpa [hd] using hhalt

/-- A command in flight that goes to phase `q` leaves the invariant. -/
theorem gotoPhase_flagInv {q : Phase} (hq : q ≠ .idle) (hb : s.busy = true) (hd : s.done = false)
    (hh : s.halt = false) (he : s.err = 0) (hr : s.noResults = true) (hc : s.crit = q.critical)
    (hg : q.usesGpio = true → s.ginit = true) : (gotoPhase q s).FlagInv :=
  ⟨by simp [hb, hq], hc, by simp [hd], fun _ => ⟨he, hr⟩, by simp [he], by simp [hh], hg⟩

theorem PhaseOutcome.flagInv (hi : s.FlagInv) (hp : s.ph ≠ .idle) (h : PhaseOutcome s.ph s t) : t.FlagInv := by
  obtain ⟨hb, hd, hh, he, hr, hc, hg⟩ := hi.inFlight hp
  cases h with
  | goesOn hq hu hr' hc' hg' =>
    obtain ⟨ub, ud, -, uh, ue, -⟩ := State.carried_eq hu
    exact gotoPhase_flagInv hq (ub.trans hb) (ud.trans hd) (uh.trans hh) (ue.trans he) (hr'.trans hr) (hc' hc)
      (hg' hg)
  | fails hu hk =>
    obtain ⟨-, -, -, uh, -⟩ := State.carried_eq hu
    exact fail_FlagInv (uh.trans hh) (by simp [hk])
  | succeeds hq hu hc' =>
    obtain ⟨-, -, -, uh, ue, -⟩ := State.carried_eq hu
    refine finish_FlagInv (uh.trans hh) (ue.trans he) (hc'.trans (hc.trans ?_))
    revert hq
    cases s.ph <;> decide

theorem StartOutcome.flagInv (hi : s.FlagInv) (hp : s.ph = .idle) (hh : s.halt = false) (h : StartOutcome s t) :
    t.FlagInv := by
  have hc : s.crit = false := by rw [hi.2.1, hp]; rfl
  cases h with
  | accepted hq hu hr huc =>
    obtain ⟨ub, ud, -, uh, ue, -⟩ := State.carried_eq hu
    have huc := huc.trans hc
    obtain rfl | rfl | rfl := hq <;>
      exact gotoPhase_flagInv (by decide) ub ud (uh.trans hh) ue hr huc nofun
  | fails uh _ ug hk => exact fail_FlagInv (uh.trans hh) fun h => ug.trans (hk h)
  | succeeds uh _ ue huc => exact finish_FlagInv (uh.trans hh) ue (huc.trans hc)

theorem exec_flagInv {i : Instr} (hi : s.FlagInv) (hh : s.ph = .idle → s.halt = false) (h : exec i s = .next t) :
    t.FlagInv := by
  obtain ⟨hp, rfl⟩ | ⟨hf, rfl⟩ := exec_next h
  · exact (startOf_outcome i).flagInv hi hp (hh hp)
  · have hp : s.ph ≠ .idle := fun hp => by simp [inFlight_eq_none.2 hp] at hf
    exact phaseOf_eq_phaseAt s ▸ (phaseAt_outcome Config.params hp).flagInv hi hp

/-- Settles O50: by the outcomes of a step, of a command at IDLE and of a phase in flight. -/
theorem stepKeepsFlagInv : Obligations.StepKeepsFlagInv := by
  intro s t hi h
  obtain ⟨rest, r, hr, h⟩ := step_next h
  have hir : r.FlagInv := hr ▸ hi
  obtain rfl | ⟨n, rfl⟩ | ⟨-, -, rfl⟩ | ⟨-, hh, rfl⟩ | ⟨i, he, h⟩ := h
  · exact hir
  · obtain ⟨e, l, h⟩ := hostRead_frame Config.params.resRepr n r
    exact h ▸ hir
  · exact reset_flagInv
  · exact fail_FlagInv (hr ▸ hh) nofun
  · refine exec_flagInv hir (fun hp => ?_) he
    obtain ⟨-, hh⟩ | hf := h
    · exact hr ▸ hh
    · have hp : s.ph = .idle := by rw [hr] at hp; exact hp
      simp [inFlight_eq_none.2 hp] at hf

end Sys2Proof.Machine
end

section
/-! Reset, the host's port, and who drives a line (`10_state.md` R24 to R33, R44). -/

namespace Sys2Proof.Machine

/-- Settles O55: the reset state is closed, and TRACE and the released pin are asked of no phase IDLE. -/
theorem resetState : Obligations.ResetState :=
  ⟨rfl, rfl, rfl, rfl, rfl, rfl, rfl, rfl, rfl, rfl, reset_flagInv, reset_memInv, nofun, nofun, nofun⟩

/-- A host write of a register other than CMD is taken off the list and does nothing. -/
theorem step_hostWrite_readOnly {s : State} {n : BitVec 3} {v : Word} {rest : List Input}
    (h : s.inputs = .hostWrite n v :: rest) (hn : n ≠ 0) : step s = .next { s with inputs := rest } :=
  (step_input h nofun).trans (if_neg hn)

theorem step_cmdWrite {s : State} {v : Word} {rest : List Input} (h : s.inputs = .hostWrite 0 v :: rest) :
    step s = cmdWrite v { s with inputs := rest } := step_input h nofun

theorem cmdWrite_busy {s : State} (v : Word) (h : s.busy = true) : cmdWrite v s = .refused .commandWhileBusy := by
  simp [cmdWrite, h]

theorem cmdWrite_halt {s : State} (v : Word) (hb : s.busy = false) (hh : s.halt = true) : cmdWrite v s = .next s := by
  simp [cmdWrite, hb, hh]

theorem cmdWrite_command {s : State} {v : Word} {i : Instr} (hb : s.busy = false) (hh : s.halt = false)
    (hd : decode (v.setWidth 16) = .command i) : cmdWrite v s = exec i s := by
  simp [cmdWrite, hb, hh, hd]

theorem sequencerStep_inFlight {s : State} {i : Instr} (h : s.inFlight = some i) : sequencerStep s = exec i s := by
  simp only [sequencerStep, h]

/-- Settles O5: a step takes the input, and the CMD write or the sequencer hands the command to exec. -/
theorem stepRunsTheDecodedCommand : Obligations.StepRunsTheDecodedCommand := by
  refine ⟨fun s v rest i hin hb hh hd => ?_, fun s i hf => ⟨fun hin => ?_, fun rest hin => ?_, fun rest hin hb => ?_⟩,
    fun s w i hd => ?_⟩
  · exact (step_cmdWrite hin).trans (cmdWrite_command hb hh hd)
  · rw [step_noInput hin, sequencerStep_inFlight hf]
  · rw [step_input hin nofun]
    exact sequencerStep_inFlight hf
  · rw [step_awaitIdle_busy hin hb, sequencerStep_inFlight hf]
  · have hw : (BitVec.ofNat 32 (w.toNat % 2 ^ 16 % 2 ^ 16)).setWidth 16 = w := by
      apply BitVec.eq_of_toNat_eq
      simpa using w.isLt
    exact (step_cmdWrite rfl).trans (cmdWrite_command rfl rfl (hw.symm ▸ hd))

/-- Settles O6: the CMD write tests BUSY, and exec tests the command in flight. -/
theorem commandInFlightIsRefused : Obligations.CommandInFlightIsRefused := by
  refine ⟨fun s v rest hin hb => ?_, fun s i j hf hij => exec_refused hf hij⟩
  exact (step_cmdWrite hin).trans (cmdWrite_busy v hb)

/-- Settles O7: HALT, a read-only register and IDLE each leave the state to itself. -/
theorem inputsWithoutEffect : Obligations.InputsWithoutEffect := by
  refine ⟨fun s v rest hin hb hh => ?_, fun s n v rest hin hn => step_hostWrite_readOnly hin hn, fun s hin hp => ?_⟩
  · exact (step_cmdWrite hin).trans (cmdWrite_halt v hb hh)
  · rw [step_noInput hin]
    simp only [sequencerStep, inFlight_eq_none.2 hp]

/-- Settles O9: STATUS is presented in every state, bit by bit. -/
theorem statusShowsTheFlags : Obligations.StatusShowsTheFlags := by
  refine ⟨fun s rest hin => ⟨statusWord s, ?_, ?_⟩, rfl, fun s v rest hin => step_hostWrite_readOnly hin (by decide)⟩
  · rw [step_input hin nofun]
    rfl
  · simp only [statusWord_getLsbD]
    refine ⟨rfl, rfl, by simp [errf], rfl, rfl, rfl, fun j hj => ?_⟩
    exact List.getD_eq_default _ _ hj

theorem hostView_free {repr : ResNum → Word} {n : BitVec 3} {s : State} (hn : n ≠ 1) (h : s.busy = true ∨ n = 0) :
    hostView repr n s = none := by
  obtain hb | rfl := h
  · exact (if_neg hn).trans (if_pos hb)
  · simp [hostView]

theorem hostView_shown {repr : ResNum → Word} {n : BitVec 3} {s : State} (hb : s.busy = false) :
    (n = 2 → hostView repr n s = some (s.err.setWidth 32)) ∧
    (n = 3 → hostView repr n s = s.resT.map repr) ∧
    (n = 4 → hostView repr n s = s.resH.map repr) ∧
    (n = 5 → hostView repr n s = s.resP.map repr) ∧
    (n = 6 → hostView repr n s = s.pinval) ∧
    (n = 7 → hostView repr n s = s.chipid.map (fun b => b.setWidth 32)) := by
  refine ⟨?_, ?_, ?_, ?_, ?_, ?_⟩ <;> rintro rfl <;> simp [hostView, hb]

/-- Settles O10: the word returned is the view of the register, or a draw where it has none. -/
theorem hostReadsPresentTheRegisters : Obligations.HostReadsPresentTheRegisters := by
  intro s n rest hin hn
  have hfree := hostView_free (repr := Config.params.resRepr) (s := s) hn
  have hshown := hostView_shown (repr := Config.params.resRepr) (n := n) (s := s)
  have hstep : step s = .next (hostRead Config.params.resRepr n { s with inputs := rest }) := step_input hin nofun
  have hview : hostView Config.params.resRepr n { s with inputs := rest } = hostView Config.params.resRepr n s := rfl
  cases hv : hostView Config.params.resRepr n s with
  | none =>
    refine ⟨none, _, _, ?_, nofun, fun _ => ⟨rfl, rfl⟩, hv ▸ hfree, hv ▸ hshown⟩
    rw [hstep, hostRead, hview, hv]
  | some x =>
    refine ⟨some x, x, s.env, ?_, fun y hy => ⟨by simpa using hy, rfl⟩, nofun, hv ▸ hfree, hv ▸ hshown⟩
    rw [hstep, hostRead, hview, hv]

/-- Settles O19: exec at IDLE is the accept, the operands and the first phase. -/
theorem compoundCommandsAreAccepted : Obligations.CompoundCommandsAreAccepted :=
  fun _ hp => ⟨fun _ _ => exec_idle hp, fun _ => exec_idle hp, fun _ => exec_idle hp⟩

/-- Once its function-select word was written, the code in it decides who drives the line of `p` (`10_state.md` R33). -/
theorem lineDriver_fselPut {s : State} {p : Pin} {code : BitVec 3} {v : Word}
    (h : s.gpio.fsel[fselIndex p] = fselPut p code v) :
    s.lineDriver p =
      if code = fselOutput then .peripheral (s.gpio.out.getLsbD p.toNat)
      else if code = fselInput then .released else .notDescribed := by
  rw [State.lineDriver, h, fselGet_fselPut_same]

/-- Settles O18: the direction commands write the field and leave the latch. -/
theorem directionDecidesTheDriver : Obligations.DirectionDecidesTheDriver := by
  intro s p hp hg
  refine ⟨⟨_, exec_idle hp, ?_⟩, ⟨_, exec_idle hp, ?_⟩⟩
  · have hs : startOf (.setOutput p) s = finish (pinSetOutput p { accept s with pinr := p }) := if_pos hg
    rw [hs, lineDriver_fselPut (code := fselOutput) (v := s.gpio.fsel[fselIndex p]) (Vector.getElem_set_self ..)]
    rfl
  · have hs : startOf (.setInput p) s = finish (pinSetInput p { accept s with pinr := p }) := if_pos hg
    rw [hs, lineDriver_fselPut (code := fselInput) (v := s.gpio.fsel[fselIndex p]) (Vector.getElem_set_self ..)]
    rfl

end Sys2Proof.Machine
end

section
/-! CRIT, CHIPID and the captured trace along a step (`10_state.md` R24, R31, R34). -/

namespace Sys2Proof.Machine

variable {s t : State}

theorem Phase.critical_mem {p : Phase} (h : p.critical = true) :
    p ≠ .idle ∧ p ∈ [Phase.ow2, .ow3, .ow4, .ow5, .ow6] := by
  revert h
  cases p <;> decide

theorem State.FlagInv.crit_open (hi : s.FlagInv) :
    (s.crit = true → s.busy = true ∧ s.ph ∈ [Phase.ow2, .ow3, .ow4, .ow5, .ow6]) ∧
    (s.ph = .idle → s.crit = false) ∧ (s.done = true → s.crit = false) := by
  obtain ⟨hbusy, hcrit, hdone, -⟩ := hi
  have hidle : s.ph = .idle → s.crit = false := fun hp => by rw [hcrit, hp]; rfl
  refine ⟨fun hc => ?_, hidle, fun hd => hidle ?_⟩
  · obtain ⟨hp, hm⟩ := Phase.critical_mem (hcrit ▸ hc)
    exact ⟨hbusy.2 hp, hm⟩
  · simpa [hdone hd] using hbusy

/-- The one-wire command in flight runs the phase PH names. -/
theorem exec_readOneWire_next (hp : s.ph ∈ [Phase.ow2, .ow3, .ow4, .ow5, .ow6])
    (h : exec (.readOneWire s.kindr s.pinr) s = .next t) : t = phaseAt Config.params s.ph s := by
  have hf : s.inFlight = some (.readOneWire s.kindr s.pinr) := by
    simp only [List.mem_cons, List.not_mem_nil, or_false] at hp
    obtain hp | hp | hp | hp | hp := hp <;> simp only [State.inFlight, hp]
  rw [exec_inFlight hf, phaseOf_eq_phaseAt] at h
  exact (Host.Outcome.next.inj h).symm

/-- A phase that ends the command elsewhere than at its last phase releases CRIT. -/
theorem PhaseOutcome.idle_iff_crit {p : Phase} (h : PhaseOutcome p s t) (hc : s.crit = p.critical)
    (hn : p.following.critical = true) : t.ph = .idle ↔ t.crit = false := by
  cases h with
  | goesOn hp _ _ hcu _ => simp [hcu hc, hn, hp]
  | fails _ _ => simp [fail]
  | succeeds hp _ _ => simp [hp, Phase.critical] at hn

/-- Settles O51: by the invariant of the flags, and by the outcomes of OW2 to OW6. -/
theorem critIsAlwaysReleased : Obligations.CritIsAlwaysReleased := by
  refine ⟨fun s t hi h => ?_, fun s t h => ⟨fun hp => ?_, fun hp hc => ?_, fun hp => ?_⟩, fun k s => ⟨rfl, rfl, rfl⟩⟩
  · obtain ⟨hopen, hidle, hdone⟩ := (stepKeepsFlagInv s t hi h).crit_open
    refine ⟨hopen, hidle, hdone, ?_⟩
    rw [statusWord_getLsbD, statusWord_getLsbD]
    simpa using hdone
  · rw [exec_readOneWire_next (by simp [hp]) h, hp]
    exact ⟨rfl, rfl⟩
  · rw [exec_readOneWire_next (List.mem_cons_of_mem _ (List.mem_append_left [.ow6] hp)) h]
    have hcr : s.ph ≠ .idle ∧ s.ph.critical = true ∧ s.ph.following.critical = true := by
      revert hp
      cases s.ph <;> decide
    obtain ⟨hne, hcp, hnext⟩ := hcr
    exact (phaseAt_outcome Config.params hne).idle_iff_crit (hc.trans hcp.symm) hnext
  · rw [exec_readOneWire_next (by simp [hp]) h, hp]
    simp only [phaseAt, phaseOw6]
    split <;> rfl

theorem StartOutcome.chipid_eq (h : StartOutcome s t) : t.chipid = s.chipid := by
  cases h with
  | accepted _ hu _ _ =>
    obtain ⟨-, -, -, -, -, hi⟩ := State.carried_eq hu
    exact hi nofun nofun
  | fails _ hi _ _ => exact hi
  | succeeds _ hi _ _ => exact hi

theorem PhaseOutcome.chipid_eq {p : Phase} (hb : p ≠ .b2) (hp : p ≠ .p2) (h : PhaseOutcome p s t) :
    t.chipid = s.chipid := by
  cases h with
  | goesOn _ hu _ _ _ | fails hu _ | succeeds _ hu _ =>
    obtain ⟨-, -, -, -, -, hi⟩ := State.carried_eq hu
    exact hi hb hp

/-- Settles O58: only the chip-ID phases and reset write CHIPID. -/
theorem chipIdIsKept : Obligations.ChipIdIsKept := by
  intro s t h
  contrapose!
  intro ⟨hb, hp, hreset⟩
  obtain ⟨rest, r, rfl, rfl | ⟨n, rfl⟩ | ⟨⟨l, hl⟩, -, -⟩ | ⟨-, -, rfl⟩ | ⟨i, he, -⟩⟩ := step_next h
  · rfl
  · obtain ⟨e, l, h⟩ := hostRead_frame Config.params.resRepr n { s with inputs := rest }
    rw [h]
  · exact absurd hl (hreset l)
  · rfl
  · obtain ⟨-, rfl⟩ | ⟨hf, rfl⟩ := exec_next he
    · exact (startOf_outcome i).chipid_eq
    · have hne : s.ph ≠ .idle := fun hi => nomatch (inFlight_eq_none.2 hi).symm.trans hf
      rw [phaseOf_eq_phaseAt]
      exact (phaseAt_outcome Config.params hne).chipid_eq (s := { s with inputs := rest }) hb hp

theorem setTrace_getD (j i : Nat) (c : Count) (s : State) (hi : i < 82) :
    (setTrace j c s).ow.trace.getD i 0 = if j = i then c else s.ow.trace.getD i 0 := by
  simp [setTrace, Vector.getD, Array.getElem_setIfInBounds, hi]

theorem spinWhile_trace (p : Pin) (level : Bool) (s : State) : (spinWhile p level s).2.ow.trace = s.ow.trace := by
  obtain ⟨e, c, l, h, -⟩ := spinWhile_frame p level s
  rw [h]

/-- A capture that ends in time has written counts below OW_MAXSPIN from TRACE[j] on, and kept the earlier ones. -/
theorem captureFrom_counts {p : Pin} {n j : Nat} {s : State} (h : (captureFrom p n j s).1 = true)
    (hj : ∀ i < j, (s.ow.trace.getD i 0).toNat < owMaxspin) (hn : j + n ≤ owTraceLen) :
    ∀ i < j + n, ((captureFrom p n j s).2.ow.trace.getD i 0).toNat < owMaxspin := by
  induction n generalizing j s with
  | zero => simpa [captureFrom] using hj
  | succ n ih =>
    cases hm : spinWhile p (traceLevel j) { s with ow := { s.ow with idx := BitVec.ofNat 7 j } } with
    | mk m u =>
      cases m with
      | timeout =>
        rw [captureFrom_succ_timeout hm] at h
        cases h
      | ok c =>
        rw [captureFrom_succ_ok hm] at h ⊢
        rw [show j + (n + 1) = j + 1 + n by omega] at hn ⊢
        refine ih h (fun i hi => ?_) hn
        have hlen : owTraceLen = 82 := rfl
        have hu : u.ow.trace = s.ow.trace :=
          (congrArg (fun r => r.2.ow.trace) hm).symm.trans (spinWhile_trace p (traceLevel j) _)
        rw [setTrace_getD j i c u (by omega), hu]
        split
        · exact spinWhile_ok_lt (congrArg Prod.fst hm)
        · exact hj i (by omega)

/-- A phase leaves PH at the phase after it or at IDLE. -/
theorem PhaseOutcome.ph {p : Phase} (h : PhaseOutcome p s t) : t.ph = p.following ∨ t.ph = .idle := by
  cases h with
  | goesOn => exact .inl rfl
  | fails => exact .inr rfl
  | succeeds => exact .inr rfl

theorem StartOutcome.not_captured (h : StartOutcome s t) : t.ph.captured = false := by
  cases h with
  | accepted hq => obtain rfl | rfl | rfl := hq <;> rfl
  | fails => rfl
  | succeeds => rfl

theorem phaseOw4_traceInv : (phaseOw4 s).TraceInv := by
  unfold phaseOw4
  split
  · rename_i h
    exact fun _ => captureFrom_counts h nofun le_rfl
  · exact nofun

theorem phaseOw6_traceInv (hi : s.TraceInv) (hp : s.ph = .ow6) : (phaseOw6 s).TraceInv := by
  unfold phaseOw6
  split
  · exact nofun
  · exact fun _ => hi (by rw [hp]; rfl)

/-- OW4 completes a capture, OW5 and OW6 keep it, and no other phase goes on to one that has it. -/
theorem phaseOf_traceInv (hi : s.TraceInv) : (phaseOf s).TraceInv := by
  rw [phaseOf_eq_phaseAt]
  by_cases hf : s.ph.following.captured = true
  · have hp : s.ph = .ow4 ∨ s.ph = .ow5 ∨ s.ph = .ow6 := by
      revert hf
      cases s.ph <;> decide
    obtain hp | hp | hp := hp <;> rw [hp]
    · exact phaseOw4_traceInv
    · exact fun _ => hi (by rw [hp]; rfl)
    · exact phaseOw6_traceInv hi hp
  · intro hc
    by_cases hp : s.ph = .idle
    · exact absurd (by rw [hp] at hc; simpa [phaseAt, hp] using hc) (by decide : ¬ Phase.idle.captured = true)
    · obtain h | h := (phaseAt_outcome (s := s) Config.params hp).ph
      · exact absurd (h ▸ hc) hf
      · rw [h] at hc
        cases hc

/-- Settles O53: only OW4 completes a capture, with counts `SpinWhile` returned. -/
theorem stepKeepsTraceInv : Obligations.StepKeepsTraceInv := by
  intro s t hi h
  obtain ⟨rest, r, hr, h⟩ := step_next h
  have hir : r.TraceInv := hr ▸ hi
  obtain rfl | ⟨n, rfl⟩ | ⟨-, -, rfl⟩ | ⟨-, -, rfl⟩ | ⟨i, he, -⟩ := h
  · exact hir
  · obtain ⟨e, l, h⟩ := hostRead_frame Config.params.resRepr n r
    exact h ▸ hir
  · exact nofun
  · exact nofun
  · obtain ⟨-, rfl⟩ | ⟨-, rfl⟩ := exec_next he
    · exact fun hc => absurd hc (by simp [(startOf_outcome (s := r) i).not_captured])
    · exact phaseOf_traceInv hir

end Sys2Proof.Machine
end

section
/-! SUPPORT. The lines of the BMP180 compensation read no temporary that they, or the lines of P6 before them, have not
written (`10_state.md` R45, `43_bmp180.md` R226, R227). -/

namespace Sys2Proof.Machine

/-- The temporaries of R226 and R227 in the order in which they are first written: the first `n` of them, and 0 for the
others. T10 is read by no line. -/
def BmpTmp.written (n : Nat) (t : BmpTmp) : BmpTmp :=
  { x1 := if 0 < n then t.x1 else 0
    x2 := if 1 < n then t.x2 else 0
    b5 := if 2 < n then t.b5 else 0
    b6 := if 3 < n then t.b6 else 0
    x3 := if 4 < n then t.x3 else 0
    b3 := if 5 < n then t.b3 else 0
    b4 := if 6 < n then t.b4 else 0
    b7 := if 7 < n then t.b7 else 0
    p := if 8 < n then t.p else 0
    t10 := 0 }

/-- Lines that read no temporary but the first `n`, or one written by an earlier line of them, and after which the first
`m` are written. -/
inductive Tracks : Nat → List BmpLine → Nat → Prop where
  | nil {n : Nat} : Tracks n [] n
  | cons {n k m : Nat} {l : BmpLine} {rest : List BmpLine}
      (hl : ∀ t, (l t).map (BmpTmp.written k) = (l (t.written n)).map (BmpTmp.written k)) (hr : Tracks k rest m) :
      Tracks n (l :: rest) m

theorem Tracks.append {n k m : Nat} {a b : List BmpLine} (ha : Tracks n a k) (hb : Tracks k b m) :
    Tracks n (a ++ b) m := by
  induction ha with
  | nil => exact hb
  | cons hl _ ih => exact .cons hl (ih hb)

/-- Two runs from temporaries that agree on the first `n` succeed or fail together, and agree at the end. -/
theorem Tracks.run {n m : Nat} {lines : List BmpLine} (h : Tracks n lines m) {a b : BmpTmp}
    (hab : a.written n = b.written n) :
    (runLines lines a).1 = (runLines lines b).1 ∧
      ((runLines lines a).1 = true → (runLines lines a).2.written m = (runLines lines b).2.written m) := by
  induction h generalizing a b with
  | nil => exact ⟨rfl, fun _ => hab⟩
  | @cons n k m l rest hl _ ih =>
    have hk : (l a).map (BmpTmp.written k) = (l b).map (BmpTmp.written k) := by rw [hl a, hab, ← hl b]
    cases hla : l a <;> cases hlb : l b <;> simp only [hla, hlb, Option.map_some, Option.map_none] at hk
    · simp [runLines, hla, hlb]
    · cases hk
    · cases hk
    · simp only [runLines, hla, hlb]
      exact ih (Option.some.inj hk)

theorem temperatureLines_tracks (m : DivMode) (k : BmpCoef) (ut : Int) : Tracks 0 (temperatureLines m k ut) 3 := by
  refine .cons (k := 1) ?_ (.cons (k := 2) ?_ (.cons (k := 3) ?_ (.cons (k := 3) ?_ .nil))) <;> intro t <;>
    simp [BmpTmp.written, Option.map_bind, apply_ite]

theorem pressureLinesB3_tracks (oss : Nat) (k : BmpCoef) : Tracks 3 (pressureLinesB3 oss k) 6 := by
  refine .cons (k := 4) ?_ (.cons (k := 4) ?_ (.cons (k := 4) ?_ (.cons (k := 5) ?_ (.cons (k := 6) ?_ .nil)))) <;>
    intro t <;> simp [BmpTmp.written, Option.map_bind]

theorem pressureLinesB7_tracks (oss : Nat) (k : BmpCoef) (up : Int) : Tracks 6 (pressureLinesB7 oss k up) 8 := by
  refine .cons (k := 6) ?_ (.cons (k := 6) ?_ (.cons (k := 6) ?_ (.cons (k := 7) ?_ (.cons (k := 8) ?_ .nil)))) <;>
    intro t <;> simp [BmpTmp.written, Option.map_bind, apply_ite]

theorem pressureLinesP_tracks : Tracks 8 pressureLinesP 9 := by
  refine .cons (k := 9) ?_ (.cons (k := 9) ?_ (.cons (k := 9) ?_ (.cons (k := 9) ?_ (.cons (k := 9) ?_ .nil)))) <;>
    intro t
  · simp [BmpTmp.written, Option.map_bind, apply_ite (Option.map _)]
  all_goals simp [BmpTmp.written, Option.map_bind]

theorem pressureLines_tracks (oss : Nat) (k : BmpCoef) (up : Int) : Tracks 3 (pressureLines oss k up) 9 :=
  ((pressureLinesB3_tracks oss k).append (pressureLinesB7_tracks oss k up)).append pressureLinesP_tracks

end Sys2Proof.Machine
end

section
/-! SUPPORT. What a phase can still read (`10_state.md` R45): the working registers and buffers that hold something of the
command in flight, by phase. A state is cut down to that part, and each phase is shown to read nothing else. -/

namespace Sys2Proof.Machine

/-- The phases of READ_ONEWIRE. -/
def Phase.oneWire : Phase → Bool
  | .ow0 | .ow1a | .ow1b | .ow2 | .ow3 | .ow4 | .ow5 | .ow6 | .ow7 => true
  | _ => false

/-- The phases of the two I2C commands. -/
def Phase.onBus : Phase → Bool
  | .b1 | .b2 | .b3 | .b4 | .b5 | .b6 | .b7 | .p1 | .p2 | .p3 | .p4 | .p5 | .p6 | .p7 => true
  | _ => false

/-- Of the one-wire buffers: TRACE for the decode in OW5, FRAME from then on. -/
def Phase.liveOw (p : Phase) (o : OneWireBuf) : OneWireBuf :=
  match p with
  | .ow5 => { OneWireBuf.reset with trace := o.trace }
  | .ow6 | .ow7 => { OneWireBuf.reset with frame := o.frame }
  | _ => OneWireBuf.reset

/-- Of the BME280 buffers: the coefficients read so far, and in B7 the raw readings. -/
def Phase.liveBme (p : Phase) (b : BmeBuf) : BmeBuf :=
  match p with
  | .b4 => { BmeBuf.reset with coef := bmeCalibH2 [] (bmeCalibH1 [] b.coef) }
  | .b5 | .b6 => { BmeBuf.reset with coef := b.coef }
  | .b7 => { b with tmp := BmeBuf.reset.tmp }
  | _ => BmeBuf.reset

/-- Of the BMP180 buffers: the coefficients and raw readings read so far, and in P7 the temporaries of P6. -/
def Phase.liveBmp (p : Phase) (b : BmpBuf) : BmpBuf :=
  match p with
  | .p4 => { BmpBuf.reset with coef := b.coef }
  | .p5 => { BmpBuf.reset with coef := b.coef, ut := b.ut }
  | .p6 => { b with tmp := BmpBuf.reset.tmp }
  | .p7 => { b with tmp := b.tmp.written 3 }
  | _ => BmpBuf.reset

/-- The state with every register and buffer at its reset value that phase `p` and the phases after it do not read before
they write it. -/
def State.liveAt (p : Phase) (s : State) : State :=
  { s.forget with
    pinr := if p.oneWire then s.pinr else State.reset.pinr
    kindr := if p.oneWire then s.kindr else State.reset.kindr
    addr7 := if p.onBus then s.addr7 else State.reset.addr7
    ow := p.liveOw s.ow
    bme := p.liveBme s.bme
    bmp := p.liveBmp s.bmp }

/-- The part of the state that anything later can show. -/
def State.live (s : State) : State := s.liveAt s.ph

section
variable (s : State) (p : Phase)

theorem liveAt_liveAt_idle : (s.liveAt p).liveAt .idle = s.liveAt .idle := rfl

theorem liveAt_liveAt : (s.liveAt p).liveAt p = s.liveAt p := by
  cases p <;> dsimp only [State.liveAt, State.forget] <;> rfl

@[simp] theorem live_gotoPhase : (gotoPhase p s).live = gotoPhase p (s.liveAt p) := rfl
@[simp] theorem live_fail (k : Failure) : (fail k s).live = fail k (s.liveAt .idle) := rfl
@[simp] theorem live_finish : (finish s).live = finish (s.liveAt .idle) := rfl

@[simp] theorem liveAt_wait (us : Nat) : (wait us s).liveAt p = emit (.wait us) (s.liveAt p) := rfl
@[simp] theorem liveAt_setCrit (b : Bool) : (setCrit b s).liveAt p = setCrit b (s.liveAt p) := rfl
@[simp] theorem liveAt_pinSetInput (x : Pin) : (pinSetInput x s).liveAt p = pinSetInput x (s.liveAt p) := rfl
@[simp] theorem liveAt_pinSetOutput (x : Pin) : (pinSetOutput x s).liveAt p = pinSetOutput x (s.liveAt p) := rfl
@[simp] theorem liveAt_pinSetHigh (x : Pin) : (pinSetHigh x s).liveAt p = pinSetHigh x (s.liveAt p) := rfl
@[simp] theorem liveAt_pinSetLow (x : Pin) : (pinSetLow x s).liveAt p = pinSetLow x (s.liveAt p) := rfl
@[simp] theorem liveAt_setBmeTmp (f : BmeTmp → BmeTmp) : (setBmeTmp f s).liveAt .idle = s.liveAt .idle := rfl

theorem liveAt_sample (x : Pin) : (sample x s).2.liveAt p = (sample x (s.liveAt p)).2 := rfl

@[simp] theorem liveAt_setCnt (c : Count) : (setCnt c s).liveAt p = s.liveAt p := by
  cases p <;> rfl

theorem liveAt_setTrace (j : Nat) (c : Count) : (setTrace j c s).liveAt .ow5 = setTrace j c (s.liveAt .ow5) := rfl

/-! The part of the state that the first phase of an I2C command reads, ADDR7 among it, is what every bus access reads. -/

@[simp] theorem liveAt_i2cWrite (r v : Byte) : (i2cWrite r v s).liveAt .b1 = i2cWrite r v (s.liveAt .b1) := rfl
theorem liveAt_i2cRead (r : Byte) (n : Nat) : (i2cRead r n s).2.liveAt .b1 = (i2cRead r n (s.liveAt .b1)).2 := rfl
theorem liveAt_i2cOpen : (i2cOpen s).2.liveAt .b1 = (i2cOpen (s.liveAt .b1)).2 := rfl

end

variable {s t : State}

theorem liveAt_idle_congr {p : Phase} (h : s.liveAt p = t.liveAt p) : s.liveAt .idle = t.liveAt .idle :=
  (congrArg (State.liveAt .idle) h :)

theorem live_fail_congr {p : Phase} {k : Failure} (h : s.liveAt p = t.liveAt p) : (fail k s).live = (fail k t).live :=
  (congrArg (fail k) (liveAt_idle_congr h) :)

theorem Phase.onBus_not_oneWire {q : Phase} (hq : q.onBus = true) :
    q.oneWire = false ∧ ∀ o, q.liveOw o = OneWireBuf.reset := by
  cases q <;> simp [Phase.onBus, Phase.oneWire, Phase.liveOw] at hq ⊢

theorem liveAt_liveAt_bus {q : Phase} (hq : q.onBus = true) (s : State) : (s.liveAt q).liveAt .b1 = s.liveAt .b1 := by
  simp only [State.liveAt, State.forget, hq]
  rfl

/-- Two states agree in a phase of the bus where they agree in the first one and in the buffers that are live there. -/
theorem liveAt_bus_congr {q : Phase} (hq : q.onBus = true) (h : s.liveAt .b1 = t.liveAt .b1)
    (hbme : q.liveBme s.bme = q.liveBme t.bme) (hbmp : q.liveBmp s.bmp = q.liveBmp t.bmp) :
    s.liveAt q = t.liveAt q := by
  obtain ⟨hw, ho⟩ := Phase.onBus_not_oneWire hq
  have key : ∀ u : State, u.liveAt q = { u.liveAt .b1 with bme := q.liveBme u.bme, bmp := q.liveBmp u.bmp } := by
    intro u
    simp only [State.liveAt, State.forget, hq, hw, ho]
    rfl
  rw [key s, key t, h, hbme, hbmp]

theorem live_bus_congr {q : Phase} (hq : q.onBus = true) (h : s.liveAt .b1 = t.liveAt .b1)
    (hbme : q.liveBme s.bme = q.liveBme t.bme) (hbmp : q.liveBmp s.bmp = q.liveBmp t.bmp) :
    (gotoPhase q s).live = (gotoPhase q t).live :=
  congrArg (gotoPhase q) (liveAt_bus_congr hq h hbme hbmp)

theorem liveAt_storeBme {b c : BmeBuf} (h : s.liveAt .b1 = t.liveAt .b1) :
    State.liveAt .b1 { s with bme := b } = State.liveAt .b1 { t with bme := c } := h

theorem live_storeBme {q : Phase} (hq : q.onBus = true) {b c : BmeBuf} (h : s.liveAt .b1 = t.liveAt .b1)
    (hb : q.liveBme b = q.liveBme c) (hbmp : q.liveBmp s.bmp = q.liveBmp t.bmp) :
    (gotoPhase q { s with bme := b }).live = (gotoPhase q { t with bme := c }).live :=
  live_bus_congr hq h hb hbmp

theorem live_storeBmp {q : Phase} (hq : q.onBus = true) {b c : BmpBuf} (h : s.liveAt .b1 = t.liveAt .b1)
    (hbme : q.liveBme s.bme = q.liveBme t.bme) (hb : q.liveBmp b = q.liveBmp c) :
    (gotoPhase q { s with bmp := b }).live = (gotoPhase q { t with bmp := c }).live :=
  live_bus_congr hq h hbme hb

theorem liveAt_request {r v : Byte} {us : Nat} (h : s.liveAt .b1 = t.liveAt .b1) :
    (wait us (i2cWrite r v s)).liveAt .b1 = (wait us (i2cWrite r v t)).liveAt .b1 := by
  simp only [liveAt_wait, liveAt_i2cWrite, h]

/-- Two states that agree in the first phase of the bus read the same, and agree after the read. -/
theorem i2cRead_congr (r : Byte) (n : Nat) (h : s.liveAt .b1 = t.liveAt .b1) :
    nextRead n s = nextRead n t ∧ (i2cRead r n s).2.liveAt .b1 = (i2cRead r n t).2.liveAt .b1 :=
  ⟨(congrArg (nextRead n) h :), by rw [liveAt_i2cRead, liveAt_i2cRead, h]⟩

theorem mandatoryRead_live {r : Byte} {n : Nat} {use : List Byte → State → State} (h : s.liveAt .b1 = t.liveAt .b1)
    (huse : ∀ b, (i2cRead r n s).2.liveAt .b1 = (i2cRead r n t).2.liveAt .b1 →
      (use b (i2cRead r n s).2).live = (use b (i2cRead r n t).2).live) :
    (mandatoryRead r n use s).live = (mandatoryRead r n use t).live := by
  obtain ⟨hn, hr⟩ := i2cRead_congr r n h
  have hn : (i2cRead r n s).1 = (i2cRead r n t).1 := hn
  unfold mandatoryRead
  rw [hn]
  cases (i2cRead r n t).1 with
  | some b => exact huse b hr
  | none => exact live_fail_congr hr

/-- The phase after a chip-ID read reads no buffer. -/
theorem chipIdPhase_live {q : Phase} {m : Bool} {r : Byte} (hq : State.liveAt q = State.liveAt .b1)
    (h : s.liveAt .b1 = t.liveAt .b1) : (chipIdPhase m r q s).live = (chipIdPhase m r q t).live := by
  obtain ⟨hn, hr⟩ := i2cRead_congr r 1 h
  have hn : (i2cRead r 1 s).1 = (i2cRead r 1 t).1 := hn
  unfold chipIdPhase
  rw [hn]
  cases (i2cRead r 1 t).1 with
  | some b =>
    simp only [live_gotoPhase, hq]
    exact (congrArg (fun u : State => gotoPhase q { u with chipid := some (b.getD 0 0) }) hr :)
  | none =>
    cases m
    · exact (congrArg (gotoPhase q) (hq ▸ hr) :)
    · exact live_fail_congr hr

theorem busOpen_live {q : Phase} (hq : State.liveAt q = State.liveAt .b1) (h : s.liveAt .b1 = t.liveAt .b1) :
    State.live (if (i2cOpen s).1 then gotoPhase q (i2cOpen s).2 else fail .busOpenFailure (i2cOpen s).2) =
      State.live (if (i2cOpen t).1 then gotoPhase q (i2cOpen t).2 else fail .busOpenFailure (i2cOpen t).2) := by
  have ho : (i2cOpen s).1 = (i2cOpen t).1 := (congrArg nextOpen h :)
  have hs : (i2cOpen s).2.liveAt .b1 = (i2cOpen t).2.liveAt .b1 := by rw [liveAt_i2cOpen, liveAt_i2cOpen, h]
  rw [ho]
  split
  · simp only [live_gotoPhase, hq, hs]
  · exact live_fail_congr hs

theorem phaseB3_live : (phaseB3 s).live = (phaseB3 (s.liveAt .b3)).live :=
  mandatoryRead_live (liveAt_liveAt_bus rfl s).symm fun _ h => live_storeBme rfl h rfl rfl

theorem phaseB4_live : (phaseB4 s).live = (phaseB4 (s.liveAt .b4)).live :=
  mandatoryRead_live (liveAt_liveAt_bus rfl s).symm fun _ h =>
    mandatoryRead_live (liveAt_storeBme h) fun _ h => live_storeBme rfl h rfl rfl

theorem phaseB5_live (P : Params) : (phaseB5 P s).live = (phaseB5 P (s.liveAt .b5)).live := by
  refine live_bus_congr rfl ?_ ?_ ?_
  · simp only [liveAt_wait, liveAt_i2cWrite, liveAt_liveAt_bus (q := .b5) rfl]
  · simp only [wait_bme, i2cWrite_bme]
    rfl
  · simp only [Phase.liveBmp]

theorem phaseB6_live : (phaseB6 s).live = (phaseB6 (s.liveAt .b6)).live :=
  mandatoryRead_live (liveAt_liveAt_bus rfl s).symm fun _ h => live_storeBme rfl h rfl rfl

theorem phaseB7_live (fp : Rat → Rat) : (phaseB7 fp s).live = (phaseB7 fp (s.liveAt .b7)).live := by
  have hcoef : (s.liveAt .b7).bme.coef = s.bme.coef := rfl
  have hp : (s.liveAt .b7).bme.adcP = s.bme.adcP := rfl
  have ht : (s.liveAt .b7).bme.adcT = s.bme.adcT := rfl
  have hh : (s.liveAt .b7).bme.adcH = s.bme.adcH := rfl
  simp only [phaseB7, hcoef, hp, ht, hh]
  split
  · simp only [live_fail, liveAt_setBmeTmp, liveAt_liveAt_idle]
  · simp only [live_finish]
    rfl

theorem phaseP3_live : (phaseP3 s).live = (phaseP3 (s.liveAt .p3)).live :=
  mandatoryRead_live (liveAt_liveAt_bus rfl s).symm fun _ h => live_storeBmp rfl h rfl rfl

theorem phaseP4_live : (phaseP4 s).live = (phaseP4 (s.liveAt .p4)).live :=
  mandatoryRead_live (liveAt_request (liveAt_liveAt_bus rfl s).symm) fun _ h =>
    live_storeBmp rfl h (by simp only [Phase.liveBme]) (by simp [Phase.liveBmp, State.liveAt])

theorem phaseP5_live : (phaseP5 s).live = (phaseP5 (s.liveAt .p5)).live :=
  mandatoryRead_live (liveAt_request (liveAt_liveAt_bus rfl s).symm) fun _ h =>
    live_storeBmp rfl h (by simp only [Phase.liveBme]) (by simp [Phase.liveBmp, State.liveAt])

/-- Lines that track their temporaries come to the same from two states that agree, and what follows them sees the same. -/
theorem bmpCompute_live {n m : Nat} {lines : List BmpLine} {next : State → State} (hl : Tracks n lines m)
    (h : s.liveAt .idle = t.liveAt .idle) (htmp : s.bmp.tmp.written n = t.bmp.tmp.written n)
    (hnext : ∀ a b : BmpTmp, a.written m = b.written m →
      (next { s with bmp := { s.bmp with tmp := a } }).live = (next { t with bmp := { t.bmp with tmp := b } }).live) :
    (bmpCompute lines next s).live = (bmpCompute lines next t).live := by
  obtain ⟨h1, h2⟩ := hl.run htmp
  obtain ⟨u, rfl, ⟨hu, e⟩ | ⟨hu, e⟩⟩ := bmpCompute_cases lines next s <;>
    obtain ⟨v, rfl, ⟨hv, e'⟩ | ⟨hv, e'⟩⟩ := bmpCompute_cases lines next t
  · rw [e, e']
    exact hnext _ _ (h2 hu)
  · simp [hu, hv] at h1
  · simp [hu, hv] at h1
  · rw [e, e']
    exact live_fail_congr (p := .idle) h

theorem phaseP6_live : (phaseP6 s).live = (phaseP6 (s.liveAt .p6)).live :=
  bmpCompute_live (temperatureLines_tracks _ _ _) rfl rfl fun _ _ h =>
    live_storeBmp rfl (liveAt_liveAt_bus rfl s).symm rfl (congrArg (fun t => { s.bmp with tmp := t }) h)

theorem phaseP7_live : (phaseP7 s).live = (phaseP7 (s.liveAt .p7)).live :=
  bmpCompute_live (pressureLines_tracks _ _ _) rfl rfl fun a b h => by
    have hp : a.p = b.p := (congrArg BmpTmp.p h :)
    simp only [live_finish, hp]
    rfl

/-! The one-wire phases. -/

theorem phaseOw0_live : (phaseOw0 s).live = (phaseOw0 (s.liveAt .ow0)).live := by
  have hg : (s.liveAt .ow0).ginit = s.ginit := rfl
  unfold phaseOw0
  rw [hg]
  split <;> rfl

theorem phaseOw1a_live : (phaseOw1a s).live = (phaseOw1a (s.liveAt .ow1a)).live := by
  have hp : (s.liveAt .ow1a).pinr = s.pinr := rfl
  simp only [phaseOw1a, hp, live_gotoPhase, liveAt_wait, liveAt_pinSetHigh, liveAt_pinSetOutput]
  rfl

theorem phaseOw1b_live : (phaseOw1b s).live = (phaseOw1b (s.liveAt .ow1b)).live := by
  have hp : (s.liveAt .ow1b).pinr = s.pinr := rfl
  simp only [phaseOw1b, hp, live_gotoPhase, liveAt_wait, liveAt_pinSetLow]
  rfl

theorem phaseOw2_live : (phaseOw2 s).live = (phaseOw2 (s.liveAt .ow2)).live := by
  have hp : (s.liveAt .ow2).pinr = s.pinr := rfl
  simp only [phaseOw2, hp, live_gotoPhase, liveAt_setCrit, liveAt_pinSetInput]
  rfl

/-- Two states that agree in a phase, and in CNT, see the same polls and agree after them. -/
theorem spinLoop_live {q : Phase} (p : Pin) (level : Bool) (n : Nat) (h : s.liveAt q = t.liveAt q)
    (hc : s.ow.cnt = t.ow.cnt) :
    (spinLoop p level n s).1 = (spinLoop p level n t).1 ∧
      (spinLoop p level n s).2.liveAt q = (spinLoop p level n t).2.liveAt q := by
  induction n generalizing s t with
  | zero => exact ⟨rfl, h⟩
  | succ n ih =>
    have hs : (sample p s).1 = (sample p t).1 := (congrArg (fun u => (sample p u).1) h :)
    have hl : (sample p s).2.liveAt q = (sample p t).2.liveAt q := by rw [liveAt_sample, liveAt_sample, h]
    have hcs : (sample p s).2.ow.cnt = (sample p t).2.ow.cnt := hc
    have hcnt : ∀ (c : Count) (u : State), (setCnt c u).ow.cnt = c := fun _ _ => rfl
    simp only [spinLoop, hs, hcs, hcnt]
    split_ifs
    · exact ⟨rfl, hl⟩
    · exact ⟨rfl, by rw [liveAt_setCnt, liveAt_setCnt, hl]⟩
    · exact ih (by rw [liveAt_setCnt, liveAt_setCnt, hl]) rfl

theorem spinWhile_live {q : Phase} (p : Pin) (level : Bool) (h : s.liveAt q = t.liveAt q) :
    (spinWhile p level s).1 = (spinWhile p level t).1 ∧
      (spinWhile p level s).2.liveAt q = (spinWhile p level t).2.liveAt q :=
  spinLoop_live p level owMaxspin (by rw [liveAt_setCnt, liveAt_setCnt, h]) rfl

theorem phaseOw3_live : (phaseOw3 s).live = (phaseOw3 (s.liveAt .ow3)).live := by
  have hp : (s.liveAt .ow3).pinr = s.pinr := rfl
  obtain ⟨h1, h2⟩ := spinWhile_live s.pinr true (liveAt_liveAt s .ow3).symm
  unfold phaseOw3
  rw [hp, h1]
  split
  · exact live_fail_congr h2
  · exact (congrArg (gotoPhase .ow4) h2 :)

theorem captureFrom_live (p : Pin) (n j : Nat) (h : s.liveAt .ow5 = t.liveAt .ow5) :
    (captureFrom p n j s).1 = (captureFrom p n j t).1 ∧
      (captureFrom p n j s).2.liveAt .ow5 = (captureFrom p n j t).2.liveAt .ow5 := by
  induction n generalizing j s t with
  | zero => exact ⟨rfl, h⟩
  | succ n ih =>
    have hi : ∀ u : State, State.liveAt .ow5 { u with ow := { u.ow with idx := BitVec.ofNat 7 j } } = u.liveAt .ow5 :=
      fun _ => rfl
    obtain ⟨h1, h2⟩ := spinWhile_live (q := .ow5) p (traceLevel j) ((hi s).trans (h.trans (hi t).symm))
    simp only [captureFrom, h1]
    split
    · exact ⟨rfl, h2⟩
    · exact ih _ (by rw [liveAt_setTrace, liveAt_setTrace, h2])

theorem phaseOw4_live : (phaseOw4 s).live = (phaseOw4 (s.liveAt .ow4)).live := by
  have hp : (s.liveAt .ow4).pinr = s.pinr := rfl
  have h : (clearTrace s).liveAt .ow5 = (clearTrace (s.liveAt .ow4)).liveAt .ow5 := rfl
  obtain ⟨h1, h2⟩ := captureFrom_live s.pinr owTraceLen 0 h
  unfold phaseOw4
  rw [hp, h1]
  split
  · exact (congrArg (gotoPhase .ow5) h2 :)
  · exact live_fail_congr h2

theorem phaseOw5_live : (phaseOw5 s).live = (phaseOw5 (s.liveAt .ow5)).live := rfl

theorem phaseOw6_live : (phaseOw6 s).live = (phaseOw6 (s.liveAt .ow6)).live := by
  have hf : (s.liveAt .ow6).ow.frame = s.ow.frame := rfl
  unfold phaseOw6
  rw [hf]
  split
  · rfl
  · simp only [live_gotoPhase, liveAt_setCrit]
    rfl

theorem phaseOw7_live (fp : Rat → Rat) : (phaseOw7 fp s).live = (phaseOw7 fp (s.liveAt .ow7)).live := rfl

/-- A phase reads only the part of the state that is live in it. -/
theorem phaseAt_live (P : Params) {p : Phase} (hp : p ≠ .idle) :
    (phaseAt P p s).live = (phaseAt P p (s.liveAt p)).live := by
  cases p with
  | idle => exact absurd rfl hp
  | ow0 => exact phaseOw0_live
  | ow1a => exact phaseOw1a_live
  | ow1b => exact phaseOw1b_live
  | ow2 => exact phaseOw2_live
  | ow3 => exact phaseOw3_live
  | ow4 => exact phaseOw4_live
  | ow5 => exact phaseOw5_live
  | ow6 => exact phaseOw6_live
  | ow7 => exact phaseOw7_live P.fp
  | b1 => exact busOpen_live rfl (liveAt_liveAt_bus rfl s).symm
  | b2 => exact chipIdPhase_live rfl (liveAt_liveAt_bus rfl s).symm
  | b3 => exact phaseB3_live
  | b4 => exact phaseB4_live
  | b5 => exact phaseB5_live P
  | b6 => exact phaseB6_live
  | b7 => exact phaseB7_live P.fp
  | p1 => exact busOpen_live rfl (liveAt_liveAt_bus rfl s).symm
  | p2 => exact chipIdPhase_live rfl (liveAt_liveAt_bus rfl s).symm
  | p3 => exact phaseP3_live
  | p4 => exact phaseP4_live
  | p5 => exact phaseP5_live
  | p6 => exact phaseP6_live
  | p7 => exact phaseP7_live

end Sys2Proof.Machine
end

section
/-! Nothing a later command can show depends on what the registers and buffers held before it (`10_state.md` R45): a step
from the live part of a state comes to the same live part. -/

namespace Sys2Proof.Machine

variable {s t : State}

theorem live_live (s : State) : s.live.live = s.live := liveAt_liveAt s s.ph

theorem live_of_idle (h : s.ph = .idle) : s.live = s.liveAt .idle := by rw [State.live, h]

/-- An outcome without what nothing later can show. -/
def liveOutcome : Host.Outcome State Fault Refusal → Host.Outcome State Fault Refusal
  | .next s => .next s.live
  | .fault r => .fault r
  | .refused r => .refused r

theorem phaseOf_live (s : State) : (phaseOf s).live = (phaseOf s.live).live := by
  have hl : phaseOf s.live = phaseAt Config.params s.ph s.live := phaseOf_eq_phaseAt s.live
  rw [phaseOf_eq_phaseAt, hl]
  by_cases hp : s.ph = .idle
  · rw [hp]
    exact (live_live s).symm
  · exact phaseAt_live Config.params hp

theorem gpioInitBody_live (h : s.liveAt .idle = t.liveAt .idle) : (gpioInitBody s).live = (gpioInitBody t).live := by
  have hl : ∀ u : State, (platHandshake u).2.liveAt .idle = (platHandshake (u.liveAt .idle)).2 := fun _ => rfl
  have hg : s.ginit = t.ginit := (congrArg State.ginit h :)
  have hn : (platHandshake s).1 = (platHandshake t).1 := (congrArg nextPlat h :)
  have hp : (platHandshake s).2.liveAt .idle = (platHandshake t).2.liveAt .idle := by rw [hl s, hl t, h]
  unfold gpioInitBody
  rw [hg, hn]
  split
  · exact (congrArg finish h :)
  · split
    · rename_i base _
      exact (congrArg (fun u : State => finish { u with gbase := base + gpioPeriphOffset, ginit := true }) hp :)
    all_goals exact live_fail_congr hp

theorem pinBody_ready {p : Pin} {op : State → State} (h : s.ginit = true) :
    pinBody p op s = finish (op { s with pinr := p }) := if_pos h

theorem pinBody_notReady {p : Pin} {op : State → State} (h : s.ginit = false) :
    pinBody p op s = fail .gpioNotInitialized { s with pinr := p } := if_neg (by simp [h])

/-- A pin command whose operation leads states that agree to states that agree. -/
theorem pinBody_live {p : Pin} {op : State → State} (h : s.liveAt .idle = t.liveAt .idle)
    (hop : ∀ {u v : State}, u.liveAt .idle = v.liveAt .idle → (op u).liveAt .idle = (op v).liveAt .idle) :
    (pinBody p op s).live = (pinBody p op t).live := by
  have hg : s.ginit = t.ginit := (congrArg State.ginit h :)
  have hl : State.liveAt .idle { s with pinr := p } = State.liveAt .idle { t with pinr := p } := h
  cases ht : t.ginit with
  | true =>
    rw [pinBody_ready (hg.trans ht), pinBody_ready ht]
    exact (congrArg finish (hop hl) :)
  | false =>
    rw [pinBody_notReady (hg.trans ht), pinBody_notReady ht]
    exact live_fail_congr hl

theorem startOf_live (i : Instr) : (startOf i s).live = (startOf i (s.liveAt .idle)).live := by
  have h : (accept s).liveAt .idle = (accept (s.liveAt .idle)).liveAt .idle := rfl
  cases i with
  | gpioInit => exact gpioInitBody_live h
  | setInput p => exact pinBody_live h (congrArg (pinSetInput p))
  | setOutput p => exact pinBody_live h (congrArg (pinSetOutput p))
  | setHigh p => exact pinBody_live h (congrArg (pinSetHigh p))
  | setLow p => exact pinBody_live h (congrArg (pinSetLow p))
  | readPin p => exact pinBody_live h (congrArg (latchLevel p))
  | readOneWire k p =>
    have hs : ∀ u, (startOf (.readOneWire k p) u).live = startOf (.readOneWire k p) (u.liveAt .idle) := fun _ => rfl
    rw [hs, hs, liveAt_liveAt]
  | readBme280 a =>
    have hs : ∀ u, (startOf (.readBme280 a) u).live = startOf (.readBme280 a) (u.liveAt .idle) := fun _ => rfl
    rw [hs, hs, liveAt_liveAt]
  | readBmp180 a =>
    have hs : ∀ u, (startOf (.readBmp180 a) u).live = startOf (.readBmp180 a) (u.liveAt .idle) := fun _ => rfl
    rw [hs, hs, liveAt_liveAt]

theorem cmdWrite_live (v : Word) (hi : s.FlagInv) : liveOutcome (cmdWrite v s) = liveOutcome (cmdWrite v s.live) := by
  have hb : s.live.busy = s.busy := rfl
  have hh : s.live.halt = s.halt := rfl
  unfold cmdWrite
  rw [hb, hh]
  split
  · rfl
  · rename_i hbusy
    have hp : s.ph = .idle := hi.idle_of_not_busy (by simpa using hbusy)
    have hpl : s.live.ph = .idle := hp
    split
    · exact congrArg Host.Outcome.next (live_live s).symm
    · split
      · rw [exec_idle hp, exec_idle hpl, live_of_idle hp]
        exact congrArg Host.Outcome.next (startOf_live _)
      · exact congrArg Host.Outcome.next (live_fail_congr (live_live s).symm)

theorem hostRead_live (repr : ResNum → Word) (n : BitVec 3) :
    (hostRead repr n s).live = (hostRead repr n s.live).live := by
  have hv : hostView repr n s.live = hostView repr n s := rfl
  unfold hostRead
  rw [hv]
  cases hostView repr n s with
  | some v => exact (congrArg (fun u : State => { u with hostLog := (n, v) :: s.hostLog }) (live_live s).symm :)
  | none =>
    exact (congrArg (fun u : State => { u with
      hostLog := (n, Config.freeHostWord s.env.draws) :: s.hostLog
      env := { s.env with draws := s.env.draws + 1 } }) (live_live s).symm :)

theorem sequencerStep_live (s : State) : liveOutcome (sequencerStep s) = liveOutcome (sequencerStep s.live) := by
  rw [sequencerStep_eq, sequencerStep_eq]
  exact congrArg Host.Outcome.next (phaseOf_live s)

theorem inputStep_live (i : Input) (hi : s.FlagInv) :
    liveOutcome (inputStep i s) = liveOutcome (inputStep i s.live) := by
  have hnext : liveOutcome (.next s) = liveOutcome (.next s.live) := congrArg Host.Outcome.next (live_live s).symm
  cases i with
  | hostWrite n v =>
    simp only [inputStep, hostWrite]
    split
    · exact cmdWrite_live v hi
    · exact hnext
  | hostRead n => exact congrArg Host.Outcome.next (hostRead_live _ n)
  | awaitIdle => exact hnext
  | tick => exact sequencerStep_live s
  | reset =>
    have hb : s.live.busy = s.busy := rfl
    simp only [inputStep, resetInput, hb]
    split <;> rfl

theorem step_live (hi : s.FlagInv) : liveOutcome (step s) = liveOutcome (step s.live) := by
  cases hin : s.inputs with
  | nil =>
    rw [step_noInput hin, step_noInput (s := s.live) hin]
    exact sequencerStep_live s
  | cons i rest =>
    by_cases ha : i = .awaitIdle
    · subst ha
      cases hb : s.busy with
      | true =>
        rw [step_awaitIdle_busy hin hb, step_awaitIdle_busy (s := s.live) hin hb]
        exact sequencerStep_live s
      | false =>
        rw [step_awaitIdle_ready hin hb, step_awaitIdle_ready (s := s.live) hin hb]
        exact congrArg Host.Outcome.next (live_live { s with inputs := rest }).symm
    · rw [step_input hin ha, step_input (s := s.live) hin ha]
      exact inputStep_live (s := { s with inputs := rest }) i hi

/-- Two states with the same live part take steps to states with the same live part. -/
theorem step_live_congr (hi : s.FlagInv) (h : s.live = t.live) : liveOutcome (step s) = liveOutcome (step t) := by
  have ht : t.FlagInv := by
    have : s.live.FlagInv := hi
    rw [h] at this
    exact this
  rw [step_live hi, h, ← step_live ht]

theorem liveOutcome_cases {a b : Host.Outcome State Fault Refusal} (h : liveOutcome a = liveOutcome b) :
    (∃ u v, a = .next u ∧ b = .next v ∧ u.live = v.live) ∨ ∃ r, a = .refused r ∧ b = .refused r := by
  cases a with
  | next u => cases b <;> simp_all [liveOutcome]
  | fault r => cases r
  | refused r => cases b <;> simp_all [liveOutcome]

theorem run_forget_congr (n : Nat) (hi : s.FlagInv) (h : s.live = t.live) :
    forgetOutcome (Host.Core.run core n s) = forgetOutcome (Host.Core.run core n t) := by
  induction n generalizing s t with
  | zero => exact (congrArg (fun u : State => Host.Outcome.next u.forget) h :)
  | succ n ih =>
    obtain ⟨u, v, hs, ht, huv⟩ | ⟨r, hs, ht⟩ := liveOutcome_cases (step_live_congr hi h)
    · have hs' : core.step s = .next u := hs
      have ht' : core.step t = .next v := ht
      simp only [Host.Core.run, hs', ht']
      exact ih (stepKeepsFlagInv s u hi hs) huv
    · have hs' : core.step s = .refused r := hs
      have ht' : core.step t = .refused r := ht
      simp only [Host.Core.run, hs', ht']

/-- Settles O48: at IDLE nothing of the registers and buffers is live, and the live part alone decides a run. -/
theorem staleRegistersAreUnobservable : Obligations.StaleRegistersAreUnobservable := by
  intro s t hp hi h n
  have hpt : t.ph = .idle := ((congrArg State.ph h).symm.trans hp :)
  refine run_forget_congr n hi ?_
  rw [live_of_idle hp, live_of_idle hpt]
  exact h

end Sys2Proof.Machine
end

section
/-! SUPPORT. What the commands on the bus, and all the others, leave as it was (`20_memory.md` R60): the two frames, over
a command handed over at IDLE and over a phase in flight, and what both of them keep. -/

namespace Sys2Proof.Machine

variable {s t u : State} {i : Instr} {p : Phase}

/-- The two I2C commands. -/
def busCommand : Instr → Bool
  | .readBme280 _ | .readBmp180 _ => true
  | _ => false

theorem busCommand_iff : busCommand i = true ↔ ∃ a, i = .readBme280 a ∨ i = .readBmp180 a := by
  cases i <;> simp [busCommand]

/-- The phase in flight is on the bus exactly when its command is. -/
theorem onBus_of_inFlight (h : s.inFlight = some i) : s.ph.onBus = busCommand i := by
  cases hp : s.ph <;> simp only [State.inFlight, hp, Option.some.injEq, reduceCtorEq] at h <;> subst h <;> rfl

/-- Events are not lost, and a canonical register space stays canonical. -/
structure Keeps (s t : State) : Prop where
  grows : s.history <:+ t.history
  memInv : s.MemInv → t.MemInv

/-- What no I2C command moves, but for CRIT: the GPIO registers, the answers of LINE and PLAT, GINIT, HALT, GBASE and the
one-wire buffers. -/
def State.pinSide (s : State) : Gpio × List Word × List PlatAnswer × Bool × Bool × Nat × OneWireBuf :=
  (s.gpio, s.env.lev0, s.env.plat, s.ginit, s.halt, s.gbase, s.ow)

/-- What no other command moves: the sensors' registers, the bus's answers, CHIPID, ADDR7, the I2C buffers, the host's
log and the inputs. -/
def State.busSide (s : State) : Memory × List Bool × List (List Byte) × Option Byte × Addr7 × BmeBuf × BmpBuf ×
    List (BitVec 3 × Word) × List Input :=
  (s.sensors, s.env.i2cOpen, s.env.i2cRead, s.chipid, s.addr7, s.bme, s.bmp, s.hostLog, s.inputs)

/-- The frame of the I2C commands. A failure clears CRIT. -/
structure OnBus (s t : State) : Prop extends Keeps s t where
  side : t.pinSide = s.pinSide
  crit : s.crit = false → t.crit = false

/-- The frame of the other commands. -/
structure OffBus (s t : State) : Prop where
  side : t.busSide = s.busSide
  grows : s.history <:+ t.history

theorem OnBus.trans (h : OnBus s t) (h' : OnBus t u) : OnBus s u :=
  ⟨⟨h.grows.trans h'.grows, h'.memInv ∘ h.memInv⟩, h'.side.trans h.side, h'.crit ∘ h.crit⟩

theorem OffBus.refl (s : State) : OffBus s s := ⟨rfl, List.suffix_rfl⟩

theorem OffBus.trans (h : OffBus s t) (h' : OffBus t u) : OffBus s u :=
  ⟨h'.side.trans h.side, h.grows.trans h'.grows⟩

theorem OffBus.keeps (h : OffBus s t) : Keeps s t where
  grows := h.grows
  memInv hm := (congrArg Memory.wf (congrArg Prod.fst h.side)).trans hm

/-! The operations of the bus, and the ends of a command. -/

theorem setCrit_grows (b : Bool) (s : State) : s.history <:+ (setCrit b s).history := by
  rw [setCrit_history]
  split
  · exact List.suffix_rfl
  · exact List.suffix_cons _ _

theorem fail_onBus {k : Failure} (hk : k.halts = false) (h : OnBus s t) : OnBus s (fail k t) :=
  h.trans ⟨⟨setCrit_grows false t, id⟩, by simp [State.pinSide, hk], fun _ => rfl⟩

theorem fail_offBus {k : Failure} (h : OffBus s t) : OffBus s (fail k t) := h.trans ⟨rfl, setCrit_grows false t⟩

theorem i2cRead_onBus (r : Byte) (n : Nat) (s : State) : OnBus s (i2cRead r n s).2 :=
  ⟨⟨List.suffix_cons _ _, id⟩, rfl, id⟩

theorem i2cOpen_onBus (s : State) : OnBus s (i2cOpen s).2 := ⟨⟨List.suffix_cons _ _, id⟩, rfl, id⟩

theorem i2cWrite_onBus {r v : Byte} (h : OnBus s t) : OnBus s (i2cWrite r v t) :=
  h.trans ⟨⟨List.suffix_cons _ _, i2cWrite_memInv r v⟩, rfl, id⟩

theorem wait_onBus {us : Nat} (h : OnBus s t) : OnBus s (wait us t) :=
  h.trans ⟨⟨List.suffix_cons _ _, id⟩, rfl, id⟩

/-- The working registers and buffers of the bus's side, and the flags of the command, may be set. -/
theorem OnBus.of_same (hh : t.history = s.history) (hm : t.sensors = s.sensors) (hs : t.pinSide = s.pinSide)
    (hc : t.crit = s.crit) : OnBus s t :=
  ⟨⟨hh ▸ List.suffix_rfl, (congrArg Memory.wf hm).trans⟩, hs, hc.trans⟩

theorem OnBus.refl (s : State) : OnBus s s := .of_same rfl rfl rfl rfl

theorem gotoPhase_onBus {q : Phase} (h : OnBus s t) : OnBus s (gotoPhase q t) := h.trans (.of_same rfl rfl rfl rfl)

theorem mandatoryRead_onBus {r : Byte} {n : Nat} {use : List Byte → State → State}
    (huse : ∀ b t, OnBus t (use b t)) (s : State) : OnBus s (mandatoryRead r n use s) := by
  obtain ⟨-, h⟩ | ⟨b, -, h⟩ := mandatoryRead_cases r n use s <;> rw [h]
  · exact fail_onBus rfl (i2cRead_onBus r n s)
  · exact (i2cRead_onBus r n s).trans (huse b _)

theorem chipIdPhase_onBus (m : Bool) (r : Byte) (next : Phase) (s : State) : OnBus s (chipIdPhase m r next s) := by
  have hr := i2cRead_onBus r 1 s
  obtain ⟨b, -, h⟩ | ⟨-, -, h⟩ | ⟨-, -, h⟩ := chipIdPhase_cases m r next s <;> rw [h]
  · exact gotoPhase_onBus (hr.trans (.of_same rfl rfl rfl rfl))
  · exact fail_onBus rfl hr
  · exact gotoPhase_onBus hr

theorem busOpen_onBus (next : Phase) (s : State) :
    OnBus s (if (i2cOpen s).1 then gotoPhase next (i2cOpen s).2 else fail .busOpenFailure (i2cOpen s).2) := by
  split
  · exact gotoPhase_onBus (i2cOpen_onBus s)
  · exact fail_onBus rfl (i2cOpen_onBus s)

theorem bmpCompute_onBus {lines : List BmpLine} {next : State → State} (hnext : ∀ t, OnBus t (next t)) (s : State) :
    OnBus s (bmpCompute lines next s) := by
  obtain ⟨t, ht, h⟩ := bmpCompute_cases lines next s
  have hs : OnBus s t := ht ▸ .of_same rfl rfl rfl rfl
  obtain ⟨-, h⟩ | ⟨-, h⟩ := h <;> rw [h]
  · exact hs.trans (hnext t)
  · exact fail_onBus rfl hs

theorem phaseB7_onBus (fp : Rat → Rat) (s : State) : OnBus s (phaseB7 fp s) := by
  dsimp only [phaseB7]
  split
  · exact fail_onBus rfl (.of_same rfl rfl rfl rfl)
  · exact .of_same rfl rfl rfl rfl

/-- Every phase of an I2C command stays in the frame of the bus. -/
theorem phaseAt_onBus (P : Params) (hp : p.onBus = true) (s : State) : OnBus s (phaseAt P p s) := by
  cases p <;> simp only [phaseAt]
  case b1 | p1 => exact busOpen_onBus _ s
  case b2 | p2 => exact chipIdPhase_onBus _ _ _ s
  case b3 | b6 | p3 =>
    refine mandatoryRead_onBus (fun b t => ?_) s
    exact .of_same rfl rfl rfl rfl
  case b4 =>
    refine mandatoryRead_onBus (fun a t => .trans ?_ (mandatoryRead_onBus (fun h u => ?_) _)) s
    · exact .of_same rfl rfl rfl rfl
    · exact .of_same rfl rfl rfl rfl
  case b5 => exact gotoPhase_onBus (wait_onBus (i2cWrite_onBus (i2cWrite_onBus (i2cWrite_onBus (.refl s)))))
  case b7 => exact phaseB7_onBus P.fp s
  case p4 | p5 =>
    refine .trans (wait_onBus (i2cWrite_onBus (.refl s))) (mandatoryRead_onBus (fun b t => ?_) _)
    exact .of_same rfl rfl rfl rfl
  case p6 | p7 =>
    refine bmpCompute_onBus (fun t => ?_) s
    exact .of_same rfl rfl rfl rfl
  all_goals cases hp

/-! The other commands. -/

theorem spinWhile_offBus (x : Pin) (level : Bool) (s : State) : OffBus s (spinWhile x level s).2 := by
  obtain ⟨e, c, h, hu, ⟨l, rfl⟩, -, ho, hr⟩ := spinWhile_frame x level s
  rw [hu]
  exact ⟨by simp only [State.busSide, ho, hr], List.suffix_append l s.history⟩

theorem captureFrom_offBus (x : Pin) (n j : Nat) (s : State) : OffBus s (captureFrom x n j s).2 := by
  obtain ⟨e, o, h, hu, ⟨l, rfl⟩, -, ho, hr⟩ := captureFrom_frame x n j s
  rw [hu]
  exact ⟨by simp only [State.busSide, ho, hr], List.suffix_append l s.history⟩

theorem phaseOw3_offBus (s : State) : OffBus s (phaseOw3 s) := by
  have hspin := spinWhile_offBus s.pinr true s
  unfold phaseOw3
  split
  · exact fail_offBus hspin
  · exact hspin.trans ⟨rfl, List.suffix_rfl⟩

theorem phaseOw4_offBus (s : State) : OffBus s (phaseOw4 s) := by
  have hclear : OffBus s (clearTrace s) := ⟨rfl, List.suffix_rfl⟩
  have hcapture := hclear.trans (captureFrom_offBus s.pinr owTraceLen 0 (clearTrace s))
  unfold phaseOw4
  split
  · exact hcapture.trans ⟨rfl, List.suffix_rfl⟩
  · exact fail_offBus hcapture

/-- Every phase of READ_ONEWIRE, and IDLE, stays in the frame of the other commands. -/
theorem phaseAt_offBus (P : Params) (hp : p.onBus = false) (s : State) : OffBus s (phaseAt P p s) := by
  cases p <;> simp only [phaseAt]
  case idle => exact .refl s
  case ow0 =>
    unfold phaseOw0
    split
    · exact ⟨rfl, List.suffix_rfl⟩
    · exact fail_offBus (.refl s)
  case ow1a => exact ⟨rfl, [_, _, _, _], rfl⟩
  case ow1b => exact ⟨rfl, [_, _], rfl⟩
  case ow2 => exact .trans (t := setCrit true s) ⟨rfl, setCrit_grows true s⟩ ⟨rfl, [_, _], rfl⟩
  case ow3 => exact phaseOw3_offBus s
  case ow4 => exact phaseOw4_offBus s
  case ow5 | ow7 => exact ⟨rfl, List.suffix_rfl⟩
  case ow6 =>
    unfold phaseOw6
    split
    · exact fail_offBus (.refl s)
    · exact ⟨rfl, setCrit_grows false s⟩
  all_goals cases hp

theorem gpioInitBody_offBus (s : State) : OffBus s (gpioInitBody s) := by
  have hplat : OffBus s (platHandshake s).2 := ⟨rfl, List.suffix_cons _ _⟩
  unfold gpioInitBody
  split
  · exact ⟨rfl, List.suffix_rfl⟩
  · split
    · exact hplat.trans ⟨rfl, List.suffix_rfl⟩
    all_goals exact fail_offBus hplat

theorem pinBody_offBus {x : Pin} {op : State → State} (hop : ∀ t, OffBus t (op t)) (s : State) :
    OffBus s (pinBody x op s) := by
  have hlatch : OffBus s { s with pinr := x } := ⟨rfl, List.suffix_rfl⟩
  unfold pinBody
  split
  · exact (hlatch.trans (hop _)).trans ⟨rfl, List.suffix_rfl⟩
  · exact fail_offBus hlatch

theorem startOf_offBus (hi : busCommand i = false) (s : State) : OffBus s (startOf i s) := by
  refine .trans (t := accept s) ⟨rfl, List.suffix_rfl⟩ ?_
  cases i with
  | gpioInit => exact gpioInitBody_offBus _
  | setInput _ | setOutput _ =>
    refine pinBody_offBus (fun t => ?_) _
    exact ⟨rfl, [_, _], rfl⟩
  | setHigh _ | setLow _ | readPin _ =>
    refine pinBody_offBus (fun t => ?_) _
    exact ⟨rfl, List.suffix_cons _ _⟩
  | readOneWire _ _ => exact ⟨rfl, List.suffix_rfl⟩
  | readBme280 _ | readBmp180 _ => cases hi

theorem startOf_onBus (hi : busCommand i = true) (s : State) : OnBus s (startOf i s) := by
  obtain ⟨a, rfl | rfl⟩ := busCommand_iff.1 hi <;> exact .of_same rfl rfl rfl rfl

/-! Every command, and every step. -/

theorem exec_onBus (hi : busCommand i = true) (h : exec i s = .next t) : OnBus s t := by
  obtain ⟨-, rfl⟩ | ⟨hf, rfl⟩ := exec_next h
  · exact startOf_onBus hi s
  · exact phaseOf_eq_phaseAt s ▸ phaseAt_onBus Config.params ((onBus_of_inFlight hf).trans hi) s

theorem exec_offBus (hi : busCommand i = false) (h : exec i s = .next t) : OffBus s t := by
  obtain ⟨-, rfl⟩ | ⟨hf, rfl⟩ := exec_next h
  · exact startOf_offBus hi s
  · exact phaseOf_eq_phaseAt s ▸ phaseAt_offBus Config.params ((onBus_of_inFlight hf).trans hi) s

theorem exec_keeps (h : exec i s = .next t) : Keeps s t := by
  cases hi : busCommand i
  · exact (exec_offBus hi h).keeps
  · exact (exec_onBus hi h).toKeeps

theorem step_keeps (h : step s = .next t) : Keeps s t := by
  obtain ⟨rest, r, rfl, rfl | ⟨n, rfl⟩ | ⟨-, -, rfl⟩ | ⟨-, -, rfl⟩ | ⟨i, he, -⟩⟩ := step_next h
  · exact ⟨List.suffix_rfl, id⟩
  · obtain ⟨e, l, h⟩ := hostRead_frame Config.params.resRepr n { s with inputs := rest }
    exact h ▸ ⟨List.suffix_rfl, id⟩
  · exact ⟨List.suffix_rfl, id⟩
  · exact ⟨setCrit_grows false s, id⟩
  · obtain ⟨hg, hm⟩ := exec_keeps he
    exact ⟨hg, hm⟩

/-- On the bus CRIT is 0. -/
theorem State.FlagInv.crit_onBus (hi : s.FlagInv) (hp : s.ph.onBus = true) : s.crit = false := by
  obtain ⟨-, hcrit, -⟩ := hi
  rw [hcrit]
  revert hp
  cases s.ph <;> decide

end Sys2Proof.Machine
end

section
/-! The sensors' register space, the frames of the two families, the event history, and the short reads
(`20_memory.md` R60 to R77). -/

namespace Sys2Proof.Machine

variable {s : State}

/-- Settles O52: only `I2cWrite` moves the register space, and it keeps the canonical form. -/
theorem stepKeepsMemInv : Obligations.StepKeepsMemInv := fun _ _ hm h => (step_keeps h).memInv hm

/-- Settles O59: every operation puts its events before the earlier ones. -/
theorem historyOnlyGrows : Obligations.HistoryOnlyGrows := by
  intro s t h
  obtain ⟨l, hl⟩ := (step_keeps h).grows
  exact ⟨l, hl.symm⟩

/-- Settles O57: by the frames of the two families; on the bus CRIT is 0, before a step and after it. -/
theorem commandFamiliesAreIsolated : Obligations.CommandFamiliesAreIsolated := by
  refine ⟨fun s t i hb hi h => ?_, fun s t i hb h => ?_⟩
  · have hi' := busCommand_iff.2 hb
    have hf := exec_onBus hi' h
    have hc : s.crit = false := by
      obtain ⟨-, hidle, -⟩ := hi.crit_open
      obtain ⟨hp, -⟩ | ⟨hfl, -⟩ := exec_next h
      · exact hidle hp
      · exact hi.crit_onBus ((onBus_of_inFlight hfl).trans hi')
    have hs := hf.side
    simp only [State.pinSide, Prod.mk.injEq] at hs
    obtain ⟨hgpio, hlev0, hplat, hginit, hhalt, hgbase, how⟩ := hs
    exact ⟨hgpio, hlev0, hplat, (hf.crit hc).trans hc.symm, hginit, hhalt, hgbase, how⟩
  · have hi' : busCommand i = false := by
      refine Bool.eq_false_iff.2 fun hi => ?_
      obtain ⟨a, ha⟩ := busCommand_iff.1 hi
      exact ha.elim (hb a).1 (hb a).2
    simpa only [State.busSide, Prod.mk.injEq] using (exec_offBus hi' h).side

/-- Settles O60: two registers share a place only if they are one register. -/
theorem sensorWriteIsLocal : Obligations.SensorWriteIsLocal := by
  intro s r v a q
  rw [i2cWrite_sensors]
  split
  · rename_i h
    obtain ⟨rfl, rfl⟩ := h
    exact Memory.read_write_same ..
  · rename_i h
    exact Memory.read_write_other _ _ fun hk => h (sensorKey_inj hk)

/-- A command in flight runs the phase PH names. -/
theorem exec_phaseAt {i : Instr} {p : Phase} (hp : s.ph = p) (hf : s.inFlight = some i) :
    exec i s = .next (phaseAt Config.params p s) := by
  rw [exec_inFlight hf, phaseOf_eq_phaseAt, hp]

theorem fail_eq_failedWith {k : Failure} (hk : k.halts = false) (hc : s.crit = false) :
    fail k s = s.failedWith k.code := by
  simp [fail, setCrit, State.failedWith, hk, hc]

/-- A short mandatory read fails with IoError after the read (`20_memory.md` R64). -/
theorem mandatoryRead_short {r : Byte} {n : Nat} {use : List Byte → State → State} (hc : s.crit = false)
    (h : nextRead n s = none) : mandatoryRead r n use s = (s.afterRead r n).failedWith 6 := by
  obtain ⟨-, hm⟩ | ⟨b, hb, -⟩ := mandatoryRead_cases r n use s
  · exact hm.trans (fail_eq_failedWith rfl hc)
  · cases h.symm.trans hb

theorem mandatoryRead_full {r : Byte} {n : Nat} {use : List Byte → State → State} {b : List Byte}
    (h : nextRead n s = some b) : mandatoryRead r n use s = use b (s.afterRead r n) := by
  obtain ⟨hn, -⟩ | ⟨b', hb, hm⟩ := mandatoryRead_cases r n use s
  · cases hn.symm.trans h
  · cases hb.symm.trans h
    exact hm

/-- Settles O33: each of these phases comes to its mandatory read, B4 to the second one with H1 written, P4 and P5 with
the request made, and what the read finds written is kept. -/
theorem shortReadIsIoError : Obligations.ShortReadIsIoError := by
  intro s hi
  have hcrit {p : Phase} (hp : s.ph = p) (hb : p.onBus = true) : s.crit = false := hi.crit_onBus (hp ▸ hb)
  have hbme (hp : s.ph = .b3 ∨ s.ph = .b4 ∨ s.ph = .b6) : s.inFlight = some (.readBme280 s.addr7) := by
    obtain hp | hp | hp := hp <;> simp only [State.inFlight, hp]
  have hbmp (hp : s.ph = .p3 ∨ s.ph = .p4 ∨ s.ph = .p5) : s.inFlight = some (.readBmp180 s.addr7) := by
    obtain hp | hp | hp := hp <;> simp only [State.inFlight, hp]
  refine ⟨fun hp hn => ?_, fun hp hn => ?_, fun a hp ha hn => ?_, fun hp hn => ?_, fun hp hn => ?_, fun hp hn => ?_,
    fun hp hn => ?_⟩
  · rw [exec_phaseAt hp (hbme (.inl hp)), phaseAt, phaseB3, mandatoryRead_short (hcrit hp rfl) hn]
    rfl
  · rw [exec_phaseAt hp (hbme (.inr (.inl hp))), phaseAt, phaseB4, mandatoryRead_short (hcrit hp rfl) hn]
    rfl
  · rw [exec_phaseAt hp (hbme (.inr (.inl hp))), phaseAt, phaseB4, mandatoryRead_full ha]
    exact congrArg _ (mandatoryRead_short (hcrit hp rfl) hn)
  · rw [exec_phaseAt hp (hbme (.inr (.inr hp))), phaseAt, phaseB6, mandatoryRead_short (hcrit hp rfl) hn]
    rfl
  · rw [exec_phaseAt hp (hbmp (.inl hp)), phaseAt, phaseP3, mandatoryRead_short (hcrit hp rfl) hn]
    rfl
  · rw [exec_phaseAt hp (hbmp (.inr (.inl hp))), phaseAt, phaseP4]
    exact congrArg _ (mandatoryRead_short (hcrit hp rfl) hn)
  · rw [exec_phaseAt hp (hbmp (.inr (.inr hp))), phaseAt, phaseP5]
    exact congrArg _ (mandatoryRead_short (hcrit hp rfl) hn)

end Sys2Proof.Machine
end

section
/-! SUPPORT. Words cut into fields: when a word is two parts put together, and what a mask leaves of it. -/

namespace Sys2Proof

variable {n m z : Nat}

theorem eq_append_iff {c : BitVec (n + m)} {a : BitVec n} {b : BitVec m} :
    c = a ++ b ↔ c.extractLsb' m n = a ∧ c.extractLsb' 0 m = b := by
  constructor
  · rintro rfl
    exact ⟨BitVec.extractLsb'_append_eq_left, BitVec.extractLsb'_append_eq_right⟩
  · rintro ⟨rfl, rfl⟩
    rw [BitVec.extractLsb'_append_extractLsb'_eq_extractLsb' (Nat.zero_add m).symm, BitVec.extractLsb'_eq_self]

theorem extractLsb'_extractLsb'_add {w : Nat} (c : BitVec w) (i j k l : Nat) (h : i + k ≤ l) :
    (c.extractLsb' j l).extractLsb' i k = c.extractLsb' (j + i) k := by
  ext x hx
  simp [BitVec.getElem_extractLsb', show i + x < l by omega, Nat.add_assoc]

theorem and_append_eq_iff {c : BitVec (n + m)} {a p : BitVec n} {b q : BitVec m} :
    c &&& (p ++ q) = a ++ b ↔ c.extractLsb' m n &&& p = a ∧ c.extractLsb' 0 m &&& q = b := by
  rw [eq_append_iff, BitVec.extractLsb'_and, BitVec.extractLsb'_and, BitVec.extractLsb'_append_eq_left,
    BitVec.extractLsb'_append_eq_right]

/-- OPC and the must-be-zero bits below it. -/
theorem extractLsb'_eq_opc_zeros_iff {c : BitVec (4 + z + m)} {k : BitVec 4} :
    c.extractLsb' m (4 + z) = k ++ 0#z ↔ c.extractLsb' (m + z) 4 = k ∧ c.extractLsb' m z = 0#z := by
  rw [eq_append_iff, extractLsb'_extractLsb'_add _ _ _ _ _ (by omega), extractLsb'_extractLsb'_add _ _ _ _ _ (by omega),
    Nat.add_zero]

/-- A word of OPC, must-be-zero bits and an operand. -/
theorem eq_opc_zeros_append_iff {c : BitVec (4 + z + m)} {k : BitVec 4} {y : BitVec m} :
    c = k ++ 0#z ++ y ↔
      (c.extractLsb' (m + z) 4 = k ∧ c.extractLsb' m z = 0#z) ∧ c.extractLsb' 0 m = y := by
  rw [eq_append_iff, extractLsb'_eq_opc_zeros_iff]

/-- The mask of such a word tests OPC and the must-be-zero bits. -/
theorem and_opc_zeros_iff {c : BitVec (4 + z + m)} {k : BitVec 4} :
    c &&& (BitVec.allOnes (4 + z) ++ 0#m) = k ++ 0#z ++ 0#m ↔
      c.extractLsb' (m + z) 4 = k ∧ c.extractLsb' m z = 0#z := by
  rw [and_append_eq_iff, BitVec.and_allOnes, BitVec.and_zero, extractLsb'_eq_opc_zeros_iff, and_iff_left rfl]

end Sys2Proof
end

section
/-! SUPPORT. What the decoder answers, by the rows of the opcode map, and the four layouts of a row field by field
(`30_encoding.md` R90 to R93). -/

namespace Sys2Proof

theorem opcodeTable_unique {w : CmdWord} {r q : OpcodeRow} (hr : r ∈ opcodeTable) (hq : q ∈ opcodeTable)
    (hrw : r.selects w = true) (hqw : q.selects w = true) : r = q := by
  simp only [OpcodeRow.selects, decide_eq_true_iff] at hrw hqw
  by_contra hne
  have hsymm : Std.Symm fun r q : OpcodeRow => r.mask &&& q.mask &&& (r.pattern ^^^ q.pattern) ≠ 0 :=
    ⟨fun r q h => by rwa [BitVec.and_comm q.mask, BitVec.xor_comm]⟩
  refine opcodeTable_disjoint.forall hr hq hne ?_
  rw [← hrw, ← hqw]
  ext j hj
  cases hb : w[j] <;> simp +contextual [hb]

/-- A command is the answer exactly when a row selects the word and builds it; no second row can. -/
theorem decode_eq_command_iff {c : CmdWord} {i : Instr} :
    decode c = .command i ↔ ∃ r ∈ opcodeTable, r.selects c = true ∧ r.build c = i := by
  unfold decode
  cases h : opcodeTable.find? (fun r => r.selects c) with
  | none => simpa using fun r hr hc => absurd hc (List.find?_eq_none.1 h r hr)
  | some r =>
    have hr := List.mem_of_find?_eq_some h
    have hc := List.find?_some h
    simp only [Decoded.command.injEq]
    exact ⟨fun hi => ⟨r, hr, hc, hi⟩, fun ⟨q, hq, hqc, hi⟩ => opcodeTable_unique hr hq hc hqc ▸ hi⟩

theorem decode_rejected_iff {c : CmdWord} :
    (∃ r, decode c = .rejected r) ↔ ∀ r ∈ opcodeTable, ¬ r.selects c = true := by
  rw [← List.find?_eq_none]
  unfold decode
  cases opcodeTable.find? (fun r => r.selects c) <;> simp

variable {c : CmdWord} {p : Pin} {a : Addr7}

/-! The masks of R91. -/

theorem and_gpioInitMask_iff : c &&& 0xFFFF = 0x1000 ↔ opcField c = 1 ∧ c.extractLsb' 0 12 = 0 :=
  and_opc_zeros_iff (z := 12) (m := 0) (k := 0x1#4)

theorem and_pinMask_iff (k : BitVec 4) :
    c &&& 0xFFE0 = k ++ 0#7 ++ 0#5 ↔ opcField c = k ∧ c.extractLsb' 5 7 = 0 :=
  and_opc_zeros_iff (z := 7) (m := 5)

theorem and_addrMask_iff (k : BitVec 4) :
    c &&& 0xFF80 = k ++ 0#5 ++ 0#7 ↔ opcField c = k ∧ c.extractLsb' 7 5 = 0 :=
  and_opc_zeros_iff (z := 5) (m := 7)

/-- The mask of READ_ONEWIRE has a hole at the kind bit. -/
theorem and_oneWireMask_iff :
    c &&& 0xFEE0 = 0x7000 ↔ opcField c = 7 ∧ c.extractLsb' 9 3 = 0 ∧ c.extractLsb' 5 3 = 0 := by
  have h := and_append_eq_iff (n := 11) (m := 5) (c := c) (p := BitVec.allOnes 7 ++ 0#1 ++ BitVec.allOnes 3)
    (q := 0#5) (a := 0x7#4 ++ 0#3 ++ 0#1 ++ 0#3) (b := 0#5)
  rw [and_append_eq_iff (n := 8) (m := 3), and_append_eq_iff (n := 7) (m := 1), BitVec.and_allOnes, BitVec.and_allOnes,
    eq_append_iff (n := 4) (m := 3)] at h
  refine h.trans ?_
  simp [extractLsb'_extractLsb'_add, opcField, and_assoc]

/-! The words of R90. -/

theorem kindField_eq_iff {k : Kind} : kindField c = k ↔ c.extractLsb' 8 1 = kindBit k := by
  have h : c.extractLsb' 8 1 = BitVec.ofBool (c.getLsbD 8) := by
    ext j hj
    obtain rfl : j = 0 := by omega
    simp
  rw [h, kindField]
  cases c.getLsbD 8 <;> cases k <;> decide

theorem eq_oneWireWord_iff {k : Kind} :
    c = encode (.readOneWire k p) ↔
      (opcField c = 7 ∧ c.extractLsb' 9 3 = 0 ∧ c.extractLsb' 5 3 = 0) ∧ kindField c = k ∧ pinField c = p := by
  have h : encode (.readOneWire k p) = 0x7#4 ++ 0#3 ++ kindBit k ++ 0#3 ++ p := by cases k <;> rfl
  rw [h, eq_append_iff (n := 11) (m := 5), eq_append_iff (n := 8) (m := 3), eq_append_iff (n := 7) (m := 1),
    eq_append_iff (n := 4) (m := 3), kindField_eq_iff]
  simp [extractLsb'_extractLsb'_add, opcField, pinField, and_assoc, and_left_comm, and_comm]

/-! A row's test and what it builds, against the word the encoder writes. -/

theorem gpioInitRow_iff : c &&& 0xFFFF = 0x1000 ↔ c = 0x1000 := by
  have h : c &&& 0xFFFF = c := BitVec.and_allOnes
  rw [h]

theorem pinRow_iff (k : BitVec 4) : c &&& 0xFFE0 = k ++ 0#7 ++ 0#5 ∧ pinField c = p ↔ c = k ++ 0#7 ++ p :=
  (and_congr_left' (and_pinMask_iff k)).trans (eq_opc_zeros_append_iff (z := 7) (m := 5)).symm

theorem oneWireRow_iff {k : Kind} :
    c &&& 0xFEE0 = 0x7000 ∧ kindField c = k ∧ pinField c = p ↔ c = encode (.readOneWire k p) := by
  rw [and_oneWireMask_iff, eq_oneWireWord_iff]

theorem addrRow_iff (k : BitVec 4) : c &&& 0xFF80 = k ++ 0#5 ++ 0#7 ∧ addrField c = a ↔ c = k ++ 0#5 ++ a :=
  (and_congr_left' (and_addrMask_iff k)).trans (eq_opc_zeros_append_iff (z := 5) (m := 7)).symm

/-- A row selects a word and builds a command exactly when the word is the one the encoder writes for the command: the
rows of the other mnemonics build none like it. -/
theorem exists_row_iff {i : Instr} :
    (∃ r ∈ opcodeTable, r.selects c = true ∧ r.build c = i) ↔ c = encode i := by
  simp only [opcodeTable, List.exists_mem_cons_iff, OpcodeRow.selects, decide_eq_true_iff]
  cases i <;>
    simp only [reduceCtorEq, and_false, and_true, false_or, or_false, List.not_mem_nil, false_and, exists_false,
      Instr.setInput.injEq, Instr.setOutput.injEq, Instr.setHigh.injEq, Instr.setLow.injEq, Instr.readPin.injEq,
      Instr.readOneWire.injEq, Instr.readBme280.injEq, Instr.readBmp180.injEq]
  case gpioInit => exact gpioInitRow_iff
  case setInput => exact pinRow_iff 0x2#4
  case setOutput => exact pinRow_iff 0x3#4
  case setHigh => exact pinRow_iff 0x4#4
  case setLow => exact pinRow_iff 0x5#4
  case readPin => exact pinRow_iff 0x6#4
  case readOneWire => exact oneWireRow_iff
  case readBme280 => exact addrRow_iff 0x8#4
  case readBmp180 => exact addrRow_iff 0x9#4

/-- A word is illegal exactly when it fails the test of every row, each test read as OPC and must-be-zero bits. -/
theorem decode_rejected_iff_fields : (∃ r, decode c = .rejected r) ↔
    ¬(opcField c = 1 ∧ c.extractLsb' 0 12 = 0) ∧
    (∀ k ∈ [0x2#4, 0x3#4, 0x4#4, 0x5#4, 0x6#4], ¬(opcField c = k ∧ c.extractLsb' 5 7 = 0)) ∧
    ¬(opcField c = 7 ∧ c.extractLsb' 9 3 = 0 ∧ c.extractLsb' 5 3 = 0) ∧
    (∀ k ∈ [0x8#4, 0x9#4], ¬(opcField c = k ∧ c.extractLsb' 7 5 = 0)) := by
  simp only [decode_rejected_iff, ← and_gpioInitMask_iff, ← and_pinMask_iff, ← and_oneWireMask_iff,
    ← and_addrMask_iff, opcodeTable, List.forall_mem_cons, OpcodeRow.selects, decide_eq_true_iff,
    List.not_mem_nil, false_imp_iff, implies_true, and_true, and_assoc]
  exact Iff.rfl

end Sys2Proof
end

section
/-! The encoding of the commands (`30_encoding.md` R90 to R94). -/

namespace Sys2Proof

/-- Settles O1: the decoder answers by the one row that selects the word, and each row against the encoder's word. -/
theorem decodeInvertsEncode : Obligations.DecodeInvertsEncode := fun _ _ =>
  decode_eq_command_iff.trans exists_row_iff

/-- Settles O2: for each value of OPC at most one row's test can pass. -/
theorem illegalWordsByField : Obligations.IllegalWordsByField := by
  intro c
  rw [decode_rejected_iff_fields]
  unfold opcField
  have hopc := (c.extractLsb' 12 4).isLt
  simp only [← BitVec.toNat_inj (x := c.extractLsb' 12 4)]
  generalize (c.extractLsb' 12 4).toNat = opc at hopc ⊢
  interval_cases opc <;> simp [-not_and, not_and_or]

/-- Settles O3: the legal words are the encoder's, the illegal ones select no row. -/
theorem workedEncodingsDecode : Obligations.WorkedEncodingsDecode := by
  have legal {c : CmdWord} {i : Instr} (h : c = encode i) : decode c = .command i := (decodeInvertsEncode c i).2 h
  refine ⟨legal rfl, legal rfl, legal rfl, legal rfl, legal rfl, legal rfl, legal rfl, ?_⟩
  decide

end Sys2Proof
end

section
/-! The written commands (`30_encoding.md` R92, R95). -/

namespace Sys2Proof

theorem toSource_wellFormed (i : Instr) : i.toSource.wellFormed = true := by
  cases i with
  | gpioInit => exact Laws.Opcode.gpioInit.2
  | setInput p => exact (Laws.Opcode.setInput p).2
  | setOutput p => exact (Laws.Opcode.setOutput p).2
  | setHigh p => exact (Laws.Opcode.setHigh p).2
  | setLow p => exact (Laws.Opcode.setLow p).2
  | readPin p => exact (Laws.Opcode.readPin p).2
  | readOneWire k p => exact (Laws.Opcode.readOneWire k p).2
  | readBme280 a => exact (Laws.Opcode.readBme280 a).2
  | readBmp180 a => exact (Laws.Opcode.readBmp180 a).2

theorem assemble_toSource (i : Instr) : i.toSource.assemble = some i := by
  unfold SourceCommand.assemble
  rw [if_pos (toSource_wellFormed i)]
  cases i with
  | readOneWire k p => cases k <;> simp [Instr.toSource, kindOfName]
  | _ => simp [Instr.toSource]

theorem assemble_isSome (c : SourceCommand) : c.assemble.isSome = c.wellFormed := by
  cases h : c.wellFormed
  · simp [SourceCommand.assemble, h]
  · cases c with
    | readOneWire k p =>
      simp only [SourceCommand.wellFormed, Bool.and_eq_true] at h
      simp [SourceCommand.assemble, SourceCommand.wellFormed, h]
    | _ => simp [SourceCommand.assemble, h]

/-- What a written command with one number assembles to, under its bound. -/
theorem ite_decide_le {n b : Nat} {i : Instr} :
    (if decide (n ≤ b) = true then some i else none) = if n ≤ b then some i else none :=
  if_congr decide_eq_true_iff rfl rfl

theorem kindOfName_eq (k : String) : kindOfName k =
    if k ∈ ["11", "DHT11"] then some .type11
    else if k ∈ ["22", "DHT22", "AM2302"] then some .type22 else none := by
  simp only [kindOfName, List.mem_cons, List.not_mem_nil, or_false]

theorem assemble_readOneWire (k : String) (p : Nat) : (SourceCommand.readOneWire k p).assemble =
    if p ≤ 31 ∧ k ∈ ["11", "DHT11"] then some (.readOneWire .type11 (BitVec.ofNat 5 p))
    else if p ≤ 31 ∧ k ∈ ["22", "DHT22", "AM2302"] then some (.readOneWire .type22 (BitVec.ofNat 5 p))
    else none := by
  simp only [SourceCommand.assemble, SourceCommand.wellFormed, kindOfName_eq, pinMax]
  by_cases hp : p ≤ 31
  · split_ifs <;> simp_all
  · simp [hp]

/-- Settles O4: form by form; only READ_ONEWIRE has a name to look up. -/
theorem sourceSyntaxAssembles : Obligations.SourceSyntaxAssembles :=
  ⟨assemble_toSource, rfl, fun _ => ⟨ite_decide_le, ite_decide_le, ite_decide_le, ite_decide_le, ite_decide_le⟩,
    assemble_readOneWire, fun _ => ⟨ite_decide_le, ite_decide_le⟩, fun c => (assemble_isSome c).symm⟩

end Sys2Proof
end

section
/-! The calibration coefficients from their bytes (`30_encoding.md` R104, R105, R108), and an illegal command word
(`30_encoding.md` R93). -/

namespace Sys2Proof.Machine

theorem s16_wordLe (c : List Byte) (k : Nat) :
    s16 (wordLe c k) = signedWord (c.getD (2 * k) 0) (c.getD (2 * k + 1) 0) := by
  simp [s16, wordLe, byteAt, signedWord]

theorem s16_wordBe (c : List Byte) (k : Nat) :
    s16 (wordBe c k) = signedWord (c.getD (2 * k + 1) 0) (c.getD (2 * k) 0) := by
  simp [s16, wordBe, byteAt, signedWord, Nat.add_comm, Int.add_comm]

/-- Settles O34: B3 makes one mandatory read and B4 two, and the bytes go to the coefficients two by two. -/
theorem bmeCalibrationAssembly : Obligations.BmeCalibrationAssembly := by
  refine ⟨fun s c hp hc => ?_, fun s a h hp ha hh => ?_⟩
  · rw [exec_phaseAt hp (by simp only [State.inFlight, hp]), phaseAt, phaseB3, mandatoryRead_full hc]
    simp only [bmeCalibTp, s16_wordLe]
    rfl
  · rw [exec_phaseAt hp (by simp only [State.inFlight, hp]), phaseAt, phaseB4, mandatoryRead_full ha]
    have hh' : nextRead 7 { s.afterRead 0xA1 1 with
        bme := { s.bme with coef := bmeCalibH1 a s.bme.coef } } = some h := hh
    refine congrArg _ ((mandatoryRead_full hh').trans ?_)
    simp only [bmeCalibH2, s16_wordLe]
    rfl

/-- Settles O36: P3 makes one mandatory read, and the bytes go to the coefficients two by two, high byte first. -/
theorem bmpCalibrationAssembly : Obligations.BmpCalibrationAssembly := by
  intro s c hp hc
  rw [exec_phaseAt hp (by simp only [State.inFlight, hp]), phaseAt, phaseP3, mandatoryRead_full hc]
  simp only [bmpCalib, s16_wordBe]
  rfl

theorem cmdWrite_rejected {s : State} {v : Word} {r : Reject} (hb : s.busy = false) (hh : s.halt = false)
    (hd : decode (v.setWidth 16) = .rejected r) : cmdWrite v s = .next (fail .illegalCommand s) := by
  simp [cmdWrite, hb, hh, hd]

/-- Settles O8: with BUSY = 0 the block is at IDLE, where CRIT is 0, so `fail` adds no event. -/
theorem illegalWordFails : Obligations.IllegalWordFails := by
  intro s v rest r hi hin hb hh hd
  obtain ⟨-, hidle, -⟩ := hi.crit_open
  have hc : s.crit = false := hidle (hi.idle_of_not_busy hb)
  calc step s = cmdWrite v { s with inputs := rest } := step_cmdWrite hin
    _ = .next (fail .illegalCommand { s with inputs := rest }) := cmdWrite_rejected hb hh hd
    _ = .next { s.failedWith 10 with inputs := rest } := congrArg _ (fail_eq_failedWith rfl hc)

end Sys2Proof.Machine
end

section
/-! SUPPORT. What a pin command does at IDLE by GINIT, what its operation leaves of the words it moves, and what
GPIO_INIT does by PLAT's answer (`40_gpio.md` R120 to R127). -/

namespace Sys2Proof.Machine

variable {s : State} {p : Pin} {i : Instr} {op : State → State}

/-! The pin commands. -/

theorem exec_pin_ready (hi : startOf i s = pinBody p op (accept s)) (hp : s.ph = .idle) (hg : s.ginit = true) :
    exec i s = .next (finish (op { accept s with pinr := p })) := by
  rw [exec_idle hp, hi, pinBody_ready (s := accept s) hg]

theorem exec_pin_notReady (hi : startOf i s = pinBody p op (accept s)) (hp : s.ph = .idle) (hc : s.crit = false)
    (hg : s.ginit = false) : exec i s = .next { s.failedWith 1 with pinr := p } := by
  rw [exec_idle hp, hi, pinBody_notReady (s := accept s) hg]
  exact congrArg _ (fail_eq_failedWith rfl hc)

/-- The function-select word of a pin is word `p div 10` of the window (`30_encoding.md` R98). -/
theorem fselWord_eq (p : Pin) : gpioWFsel0 + fselIndex p = p.toNat / 10 := Nat.zero_add _

/-- The one read and the one write by which a pin's field comes to hold `code` (`40_gpio.md` R121, R122). -/
theorem rewriteFsel_eq (p : Pin) (code : BitVec 3) (s : State) :
    memWriteFsel (fselIndex p) (fselPut p code (memReadFsel (fselIndex p) s).1) (memReadFsel (fselIndex p) s).2 =
      { s with
        gpio := { s.gpio with fsel := s.gpio.fsel.set (fselIndex p) (fselPut p code s.gpio.fsel[fselIndex p]) },
        history := .memWrite (p.toNat / 10) (fselPut p code s.gpio.fsel[fselIndex p]) ::
          .memRead (p.toNat / 10) s.gpio.fsel[fselIndex p] :: s.history } := by
  simp only [memWriteFsel, memReadFsel, fselWord_eq, emit]

theorem fselOutput_getLsbD {j k : Nat} (h : k ≤ j) : fselOutput.getLsbD (j - k) = decide (j = k) := by
  have hj : j - k = 0 ↔ j = k := by omega
  rw [show fselOutput = 1#3 from rfl, BitVec.getLsbD_one, decide_eq_decide.2 hj]
  rfl

/-- The mask 1 << p leaves something of a word exactly when its bit `p` is 1 (`30_encoding.md` R99). -/
theorem and_pinBit_ne_zero_iff (v : Word) (p : Pin) : v &&& pinBit p ≠ 0 ↔ v.getLsbD p.toNat = true := by
  have hmask : v &&& pinBit p = if v.getLsbD p.toNat = true then pinBit p else 0 := BitVec.and_twoPow v p.toNat
  have hbit : pinBit p ≠ 0 := fun h => by simpa [h] using pinBit_getLsbD p p.toNat p.isLt
  rw [hmask]
  split_ifs with hv
  · exact iff_of_true hbit hv
  · exact iff_of_false (not_not_intro rfl) hv

/-! GPIO_INIT. -/

/-- The failure that PLAT's answer reports (`60_exceptions.md` R258 to R260). -/
def platFailure : PlatAnswer → Option Failure
  | .ok _ => none
  | .dtUnreadable => some .initDeviceTreeUnreadable
  | .devUnavailable => some .initDeviceUnavailable
  | .mapFailed => some .initMapFailed

theorem platFailure_halts {a : PlatAnswer} {k : Failure} (h : platFailure a = some k) : k.halts = true := by
  cases a <;> cases h <;> rfl

theorem gpioInitBody_mapped (hg : s.ginit = true) : gpioInitBody s = finish s := if_pos hg

theorem gpioInitBody_ok {base : Nat} (hg : s.ginit = false) (ha : nextPlat s = .ok base) :
    gpioInitBody s = finish { (platHandshake s).2 with gbase := base + gpioPeriphOffset, ginit := true } := by
  simp [gpioInitBody, platHandshake, hg, ha]

theorem gpioInitBody_fails {k : Failure} (hg : s.ginit = false) (hk : platFailure (nextPlat s) = some k) :
    gpioInitBody s = fail k (platHandshake s).2 := by
  cases ha : nextPlat s with
  | ok base => simp [platFailure, ha] at hk
  | dtUnreadable | devUnavailable | mapFailed =>
    obtain rfl : _ = k := by simpa [platFailure, ha] using hk
    simp [gpioInitBody, platHandshake, hg, ha]

/-- As `fail_eq_failedWith`, for the failures that set HALT (`60_exceptions.md` R267). -/
theorem fail_eq_failedWith_halt {k : Failure} (hk : k.halts = true) (hc : s.crit = false) :
    fail k s = { s.failedWith k.code with halt := true } := by
  simp [fail, setCrit, State.failedWith, hk, hc]

end Sys2Proof.Machine
end

section
/-! The GPIO commands (`40_gpio.md` R120 to R126). -/

namespace Sys2Proof.Machine

/-- Settles O13: the field takes the code 0b000. -/
theorem setInputClearsTheField : Obligations.SetInputClearsTheField := by
  intro s p hp hg
  refine ⟨fselPut p fselInput s.gpio.fsel[fselIndex p], ?_, fun j hj => ?_⟩
  · rw [exec_pin_ready rfl hp hg, pinSetInput, rewriteFsel_eq]
    rfl
  · rw [fselPut_getLsbD p _ _ j hj]
    exact if_congr Iff.rfl BitVec.getLsbD_zero rfl

/-- Settles O14: the field takes the code 0b001, whose one bit is at the field's place. -/
theorem setOutputWritesTheField : Obligations.SetOutputWritesTheField := by
  intro s p hp hg
  refine ⟨fselPut p fselOutput s.gpio.fsel[fselIndex p], ?_, fun j hj => ?_⟩
  · rw [exec_pin_ready rfl hp hg, pinSetOutput, rewriteFsel_eq]
    rfl
  · rw [fselPut_getLsbD p _ _ j hj]
    exact ite_congr rfl (fun ⟨hle, _⟩ => fselOutput_getLsbD hle) fun _ => rfl

/-- Settles O15: SET0 takes the pin's bit by an or with the latches, CLR0 by an and with its complement. -/
theorem pinLevelCommandsChangeOneLatch : Obligations.PinLevelCommandsChangeOneLatch := by
  intro s p hp hg
  have hbit := pinBit_getLsbD p
  refine ⟨⟨pinBit p, s.gpio.out ||| pinBit p, exec_pin_ready (op := pinSetHigh p) rfl hp hg,
      fun j hj => ⟨hbit j hj, ?_⟩⟩,
    ⟨pinBit p, s.gpio.out &&& ~~~pinBit p, exec_pin_ready (op := pinSetLow p) rfl hp hg,
      fun j hj => ⟨hbit j hj, ?_⟩⟩⟩
  · rw [BitVec.getLsbD_or, hbit j hj]
  · rw [BitVec.getLsbD_and, BitVec.getLsbD_not, hbit j hj, decide_eq_true hj, Bool.true_and]

/-- Settles O16: PINVAL is the word drawn, masked with the pin's bit. -/
theorem readPinMasksTheLevel : Obligations.ReadPinMasksTheLevel := by
  intro s p hp hg
  refine ⟨nextLev0 s &&& pinBit p, exec_pin_ready (op := latchLevel p) rfl hp hg, fun j hj => ?_,
    and_pinBit_ne_zero_iff _ p⟩
  rw [BitVec.getLsbD_and, pinBit_getLsbD p j hj, Bool.and_comm]

/-- Settles O11: PLAT is asked only where the window is not mapped yet. -/
theorem gpioInitMapsTheWindowOnce : Obligations.GpioInitMapsTheWindowOnce := by
  refine fun s hp => ⟨fun base hg ha => ?_, fun hg => ?_⟩
  · rw [exec_idle hp, startOf, gpioInitBody_ok (s := accept s) hg ha, ← ha]
    rfl
  · rw [exec_idle hp, startOf, gpioInitBody_mapped (s := accept s) hg]
    rfl

/-- Settles O12: each answer but Ok is a failure of initialisation, which halts the block, with its own code. -/
theorem gpioInitFailureHalts : Obligations.GpioInitFailureHalts := by
  rintro s _ c hp hc hg rfl hac
  obtain ⟨k, hk, rfl⟩ : ∃ k, platFailure (nextPlat s) = some k ∧ k.code = c := by
    obtain ⟨ha, rfl⟩ | ⟨ha, rfl⟩ | ⟨ha, rfl⟩ := hac <;> exact ⟨_, congrArg platFailure ha, rfl⟩
  rw [exec_idle hp, startOf, gpioInitBody_fails (s := accept s) hg hk]
  exact congrArg _ (fail_eq_failedWith_halt (platFailure_halts hk) hc)

/-- Settles O17: each of the five is a pin command, and GINIT is tested before the operation runs. -/
theorem pinCommandsNeedInit : Obligations.PinCommandsNeedInit := by
  intro s p hp hc hg i hi
  simp only [List.mem_cons, List.not_mem_nil, or_false] at hi
  obtain rfl | rfl | rfl | rfl | rfl := hi <;> exact exec_pin_notReady rfl hp hc hg

end Sys2Proof.Machine
end

section
/-! SUPPORT. The phases of READ_ONEWIRE before the capture, one by one: what each leaves (`41_onewire.md` R141 to
R147). -/

namespace Sys2Proof.Machine

variable {s : State} {p : Phase}

/-- READ_ONEWIRE in flight runs the phase PH names. -/
theorem exec_oneWire (hp : s.ph = p) (ho : p.oneWire = true) :
    exec (.readOneWire s.kindr s.pinr) s = .next (phaseAt Config.params p s) := by
  refine exec_phaseAt hp ?_
  cases p
  case ow0 | ow1a | ow1b | ow2 | ow3 | ow4 | ow5 | ow6 | ow7 => simp only [State.inFlight, hp]
  all_goals cases ho

/-- A change of CRIT is an event (`20_memory.md` R77). -/
theorem setCrit_eq_of_ne {b : Bool} (h : s.crit ≠ b) :
    setCrit b s = { s with crit := b, history := .crit b :: s.history } := by
  rw [setCrit, if_neg h]

/-- As `fail_eq_failedWith`, inside the critical region. -/
theorem fail_eq_abortedWith {k : Failure} (hk : k.halts = false) (hc : s.crit = true) :
    fail k s = s.abortedWith k.code := by
  simp [fail, setCrit, State.abortedWith, State.failedWith, hk, hc]

/-! The words and latches the request writes, bit by bit (`40_gpio.md` R121 to R124). -/

theorem fselPut_input_getLsbD (x : Pin) (v : Word) {j : Nat} (hj : j < 32) :
    (fselPut x fselInput v).getLsbD j =
      if fselShift x ≤ j ∧ j < fselShift x + 3 then false else v.getLsbD j := by
  rw [fselPut_getLsbD x _ _ j hj]
  exact if_congr Iff.rfl BitVec.getLsbD_zero rfl

theorem fselPut_output_getLsbD (x : Pin) (v : Word) {j : Nat} (hj : j < 32) :
    (fselPut x fselOutput v).getLsbD j =
      if fselShift x ≤ j ∧ j < fselShift x + 3 then decide (j = fselShift x) else v.getLsbD j := by
  rw [fselPut_getLsbD x _ _ j hj]
  exact ite_congr rfl (fun ⟨hle, _⟩ => fselOutput_getLsbD hle) fun _ => rfl

theorem or_pinBit_getLsbD (v : Word) (x : Pin) {j : Nat} (hj : j < 32) :
    (v ||| pinBit x).getLsbD j = (v.getLsbD j || decide (j = x.toNat)) := by
  rw [BitVec.getLsbD_or, pinBit_getLsbD x j hj]

theorem and_not_pinBit_getLsbD (v : Word) (x : Pin) {j : Nat} (hj : j < 32) :
    (v &&& ~~~pinBit x).getLsbD j = (v.getLsbD j && !decide (j = x.toNat)) := by
  rw [BitVec.getLsbD_and, BitVec.getLsbD_not, pinBit_getLsbD x j hj, decide_eq_true hj, Bool.true_and]

/-! The poll loop on a script, with the state it leaves written out. -/

/-- The polls of a run and the one that ended it. -/
theorem afterPolls_append_singleton (run rest : List Word) (w : Word) (c : Count) (s : State) :
    afterPolls (run ++ [w]) rest c s = { s with
      env := { s.env with lev0 := rest }, ow := { s.ow with cnt := c },
      history := .memRead 13 w :: (run.reverse.map (fun x => Event.memRead 13 x) ++ s.history) } := by
  simp [afterPolls, gpioWLev0]

theorem phaseOw3_ok {run rest : List Word} {w : Word} (hrun : ∀ x ∈ run, x.getLsbD s.pinr.toNat = true)
    (hw : w.getLsbD s.pinr.toNat = false) (hlev : s.env.lev0 = run ++ w :: rest) (hn : run.length < owMaxspin) :
    phaseOw3 s = { s with
      ph := .ow4, env := { s.env with lev0 := rest }, ow := { s.ow with cnt := BitVec.ofNat 16 run.length },
      history := .memRead 13 w :: (run.reverse.map (fun x => Event.memRead 13 x) ++ s.history) } := by
  simp only [phaseOw3, spinWhile_ok hrun (by simp [hw]) hlev hn, afterPolls_append_singleton]
  rfl

theorem phaseOw3_timeout {run rest : List Word} (hrun : ∀ x ∈ run, x.getLsbD s.pinr.toNat = true)
    (hlev : s.env.lev0 = run ++ rest) (hn : run.length = owMaxspin) :
    phaseOw3 s = fail .ackTimeout (afterPolls run rest (BitVec.ofNat 16 owMaxspin) s) := by
  simp only [phaseOw3, spinWhile_timeout hrun hlev hn]

end Sys2Proof.Machine
end

section
/-! READ_ONEWIRE up to the acknowledge (`41_onewire.md` R141 to R147). -/

namespace Sys2Proof.Machine

/-- Settles O20: OW0 branches on GINIT, and CRIT is 0 there, so `fail` adds no event. -/
theorem oneWireChecksInitFirst : Obligations.OneWireChecksInitFirst := by
  intro s hp hi
  have hc : s.crit = false := by
    obtain ⟨-, hcrit, -⟩ := hi
    rw [hcrit, hp]
    rfl
  rw [exec_oneWire hp rfl, phaseAt]
  refine ⟨fun hg => congrArg _ (if_pos hg), fun hg => congrArg _ ?_⟩
  calc phaseOw0 s = fail .gpioNotInitialized s := if_neg (by simp [hg])
    _ = s.failedWith 1 := fail_eq_failedWith rfl hc

/-- Settles O21: the three phases are pin operations and waits, and OW2 raises CRIT before its read. -/
theorem oneWireRequest : Obligations.OneWireRequest := by
  refine ⟨fun s hp => ?_, fun s hp => ?_, fun s hp hc => ?_⟩ <;> rw [exec_oneWire hp rfl, phaseAt]
  · refine ⟨fselPut s.pinr fselOutput s.gpio.fsel[fselIndex s.pinr], s.gpio.out ||| pinBit s.pinr, ?_,
      fun j hj => fselPut_output_getLsbD _ _ hj, fun j hj => or_pinBit_getLsbD _ _ hj⟩
    rw [phaseOw1a, pinSetOutput, rewriteFsel_eq]
    rfl
  · exact ⟨s.gpio.out &&& ~~~pinBit s.pinr, rfl, fun j hj => and_not_pinBit_getLsbD _ _ hj⟩
  · refine ⟨fselPut s.pinr fselInput s.gpio.fsel[fselIndex s.pinr], ?_, fun j hj => fselPut_input_getLsbD _ _ hj⟩
    rw [phaseOw2, pinSetInput, rewriteFsel_eq, setCrit_eq_of_ne (by simp [hc])]
    rfl

/-- Settles O22: the poll loop on a script, in time and at OW_MAXSPIN. -/
theorem spinWhileCountsPolls : Obligations.SpinWhileCountsPolls := by
  intro s p level run rest hrun
  refine ⟨fun w hlev hw hn => ?_, fun hlev hn => spinWhile_timeout hrun hlev hn⟩
  rw [spinWhile_ok hrun hw hlev hn, afterPolls_append_singleton]

/-- Settles O23: OW3 is one `SpinWhile` at the high level. -/
theorem oneWireAcknowledge : Obligations.OneWireAcknowledge := by
  intro s run rest hp hc hrun
  rw [exec_oneWire hp rfl, phaseAt]
  refine ⟨fun w hlev hw hn => congrArg _ (phaseOw3_ok hrun hw hlev hn), fun hlev hn => congrArg _ ?_⟩
  exact (phaseOw3_timeout hrun hlev hn).trans (fail_eq_abortedWith rfl hc)

end Sys2Proof.Machine
end

section
/-! SUPPORT. The capture on a scripted line of runs (`41_onewire.md` R148, R149). -/

namespace Sys2Proof.Machine

variable {s : State} {words rest : List Word} {c l h : Nat → Nat}

/-- The samples of the first `n` measurements: measurement `i` takes `c i` at its level and one at the other (R146). -/
def countedSamples (c : Nat → Nat) (n : Nat) : List Bool :=
  (List.range n).flatMap (fun i => List.replicate (c i) (traceLevel i) ++ [!traceLevel i])

theorem countedSamples_succ (c : Nat → Nat) (n : Nat) :
    countedSamples c (n + 1) = countedSamples c n ++ (List.replicate (c n) (traceLevel n) ++ [!traceLevel n]) := by
  simp [countedSamples, List.range_succ]

theorem traceLevel_even (i : Nat) : traceLevel (2 * i) = false := by simp [traceLevel]

theorem traceLevel_odd (i : Nat) : traceLevel (2 * i + 1) = true := by simp [traceLevel]

theorem timeoutSamples_eq (j : Nat) (c : Nat → Nat) :
    timeoutSamples j c = countedSamples c j ++ List.replicate owMaxspin (traceLevel j) := by
  have hother (i : Nat) : (!traceLevel i) = decide (i % 2 = 0) := by
    rw [traceLevel, ← decide_not]
    exact decide_eq_decide.2 (by omega)
  simp only [timeoutSamples, countedSamples, hother]
  rfl

/-- The runs of R149: 41 pairs of 1 to 32000 samples each. -/
def RunsFit (l h : Nat → Nat) : Prop := ∀ i < 41, 1 ≤ l i ∧ l i ≤ 32000 ∧ 1 ≤ h i ∧ h i ≤ 32000

/-- The count of measurement `j` on a line of lows `l` and highs `h`: the first sample of each run ended the measurement
before it (R149). -/
def runCount (l h : Nat → Nat) (j : Nat) : Nat := (if j % 2 = 0 then l (j / 2) else h (j / 2)) - 1

theorem runCount_even (i : Nat) : runCount l h (2 * i) = l i - 1 := by
  rw [runCount, if_pos (by omega), show 2 * i / 2 = i by omega]

theorem runCount_odd (i : Nat) : runCount l h (2 * i + 1) = h i - 1 := by
  rw [runCount, if_neg (by omega), show (2 * i + 1) / 2 = i by omega]

theorem runCount_lt (hlh : RunsFit l h) {j : Nat} (hj : j < 82) : runCount l h j < owMaxspin := by
  obtain ⟨hl, hl', hh, hh'⟩ := hlh (j / 2) (by omega)
  have hmax : owMaxspin = 32000 := rfl
  rw [runCount]
  split <;> omega

/-- The runs of `n` pairs and the low after them are the low before them and the samples of `2 n` measurements. -/
theorem pairs_eq_countedSamples {n : Nat} (hlh : ∀ i < n, 1 ≤ l i ∧ 1 ≤ h i) :
    (List.range n).flatMap (fun i => List.replicate (l i) false ++ List.replicate (h i) true) ++ [false] =
      false :: countedSamples (runCount l h) (2 * n) := by
  induction n with
  | zero => rfl
  | succ n ih =>
    obtain ⟨hl, hh⟩ := hlh n (by omega)
    have ih := ih fun i hi => hlh i (by omega)
    have hrun {k : Nat} (b : Bool) (hk : 1 ≤ k) : List.replicate k b = [b] ++ List.replicate (k - 1) b := by
      obtain ⟨k, rfl⟩ := Nat.exists_eq_add_of_le' hk
      rfl
    rw [show 2 * (n + 1) = 2 * n + 1 + 1 by omega, countedSamples_succ, countedSamples_succ, runCount_even,
      runCount_odd, traceLevel_even, traceLevel_odd, List.range_succ, List.flatMap_append, List.flatMap_singleton,
      hrun false hl, hrun true hh, ← List.cons_append, ← List.cons_append, ← ih]
    simp only [List.append_assoc]
    rfl

theorem captureSamples_eq (a : Nat) (hlh : RunsFit l h) :
    captureSamples a l h = List.replicate a true ++ false :: countedSamples (runCount l h) owTraceLen := by
  have hpos : ∀ i < 41, 1 ≤ l i ∧ 1 ≤ h i := by
    intro i hi
    obtain ⟨hl, -, hh, -⟩ := hlh i hi
    exact ⟨hl, hh⟩
  rw [captureSamples, List.append_assoc, pairs_eq_countedSamples hpos]
  rfl

/-- Words whose levels are `n` times the same. -/
theorem run_of_levels {x : Pin} {b : Bool} {n : Nat} {run : List Word}
    (h : run.map (fun w => w.getLsbD x.toNat) = List.replicate n b) :
    run.length = n ∧ ∀ w ∈ run, w.getLsbD x.toNat = b :=
  ⟨by simpa using congrArg List.length h, fun _ hw => List.eq_of_mem_replicate (h ▸ List.mem_map_of_mem hw)⟩

/-- The first `n` measurements of a capture, all of which end in time. -/
theorem captureFrom_countedSamples {x : Pin} {n : Nat} (hc : ∀ i < n, c i < owMaxspin)
    (hw : words.map (fun w => w.getLsbD x.toNat) = countedSamples c n) (hlev : s.env.lev0 = words ++ rest) :
    ∃ (cnt : Count) (idx : BitVec 7) (trace : Vector Count 82), captureFrom x n 0 s = (true, { s with
        ow := { s.ow with cnt := cnt, idx := idx, trace := trace }, env := { s.env with lev0 := rest },
        history := words.reverse.map (fun x => Event.memRead 13 x) ++ s.history }) ∧
      (∀ k < n, k < 82 → (trace.getD k 0).toNat = c k) ∧ ∀ k, n ≤ k → trace.getD k 0 = s.ow.trace.getD k 0 := by
  obtain ⟨groups, hlen, rfl, hg⟩ := groups_of_levels (c := c) (n := n) (j := 0) (by simpa [countedSamples] using hw)
  obtain ⟨cnt, idx, trace, hcap, hkeep, hcount⟩ := captureFrom_ok x c n 0 s groups rest hlen
    (fun i hi => ⟨(hg i hi).1, hc _ (by omega), (hg i hi).2⟩) hlev
  exact ⟨cnt, idx, trace, hcap, fun k hk => hcount k (Nat.zero_le k) (by omega), fun k hk => hkeep k (by omega)⟩

/-- OW4 on a line whose 82 measurements all end in time. -/
theorem phaseOw4_ok (hc : ∀ i < 82, c i < owMaxspin)
    (hw : words.map (fun w => w.getLsbD s.pinr.toNat) = countedSamples c owTraceLen)
    (hlev : s.env.lev0 = words ++ rest) :
    ∃ o : OneWireBuf, phaseOw4 s = { s with
        ph := .ow5, ow := o, env := { s.env with lev0 := rest },
        history := words.reverse.map (fun x => Event.memRead 13 x) ++ s.history } ∧
      ∀ k < 82, (o.trace.getD k 0).toNat = c k := by
  obtain ⟨cnt, idx, trace, hcap, hcount, -⟩ :=
    captureFrom_countedSamples (s := clearTrace s) (n := owTraceLen) hc hw hlev
  refine ⟨{ s.ow with cnt := cnt, idx := idx, trace := trace }, ?_, fun k hk => hcount k hk hk⟩
  rw [phaseOw4, hcap]
  rfl

/-- OW4 on a line whose measurement `j` is the first one that times out. -/
theorem phaseOw4_timeout {run : List Word} {j : Nat} (hj : j < 82) (hc : ∀ i < j, c i < owMaxspin)
    (hw : words.map (fun w => w.getLsbD s.pinr.toNat) = countedSamples c j)
    (hrun : ∀ w ∈ run, w.getLsbD s.pinr.toNat = traceLevel j) (hn : run.length = owMaxspin)
    (hlev : s.env.lev0 = words ++ (run ++ rest)) :
    ∃ trace : Vector Count 82, phaseOw4 s = fail .pulseTimeout { s with
        ow := { s.ow with cnt := 32000, idx := BitVec.ofNat 7 j, trace := trace }, env := { s.env with lev0 := rest },
        history := (words ++ run).reverse.map (fun x => Event.memRead 13 x) ++ s.history } ∧
      (∀ i < j, (trace.getD i 0).toNat = c i) ∧ ∀ i, j ≤ i → trace.getD i 0 = 0 := by
  obtain ⟨cnt, idx, trace, hcap, hcount, hkeep⟩ := captureFrom_countedSamples (s := clearTrace s) hc hw hlev
  refine ⟨trace, ?_, fun i hi => hcount i hi (by omega), fun i hi => ?_⟩
  · have hlen : owTraceLen = j + (81 - j + 1) := by
      have : owTraceLen = 82 := rfl
      omega
    rw [phaseOw4, hlen, captureFrom_add, hcap, if_pos rfl, Nat.zero_add,
      captureFrom_succ_timeout (spinWhile_timeout (rest := rest) hrun rfl hn)]
    simp only [afterPolls, clearTrace, List.reverse_append, List.map_append, List.append_assoc]
    rfl
  · rw [hkeep i hi]
    by_cases h82 : i < 82
    · simp [clearTrace, Vector.getD, h82]
    · simp [Vector.getD, h82]

/-- The trace of R149 is the one whose counts are the runs'. -/
theorem eq_runTrace {t : Vector Count 82} (ht : ∀ k < 82, (t.getD k 0).toNat = runCount l h k) : t = runTrace l h := by
  refine Vector.ext fun k hk => ?_
  have hcount : t[k].toNat = runCount l h k := by simpa [Vector.getD, hk] using ht k hk
  calc t[k] = BitVec.ofNat 16 t[k].toNat := (BitVec.ofNat_toNat 16 t[k]).symm
    _ = BitVec.ofNat 16 (runCount l h k) := congrArg _ hcount
    _ = (runTrace l h)[k] := by rw [runTrace, Vector.getElem_ofFn, runCount]

/-- OW3 and OW4 on a line of runs. -/
theorem capture_runs {a : Nat} (ha : a ≤ 31999) (hlh : RunsFit l h)
    (hw : words.map (fun w => w.getLsbD s.pinr.toNat) = captureSamples a l h) (hlev : s.env.lev0 = words ++ rest) :
    ∃ e b o q, phaseOw3 s = { s with ph := .ow4, env := e, ow := b, history := q } ∧
      phaseOw4 { s with ph := .ow4, env := e, ow := b, history := q } = { s with
        ph := .ow5, ow := o, env := { s.env with lev0 := rest },
        history := words.reverse.map (fun x => Event.memRead 13 x) ++ s.history } ∧
      ∀ k < 82, (o.trace.getD k 0).toNat = runCount l h k := by
  rw [captureSamples_eq a hlh] at hw
  obtain ⟨run, tail, rfl, hhigh, htail⟩ := List.map_eq_append_iff.1 hw
  obtain ⟨hlen, hrun⟩ := run_of_levels hhigh
  obtain ⟨w, pulses, rfl, hlow, hpulses⟩ := List.map_eq_cons_iff.1 htail
  rw [List.append_assoc] at hlev
  have hack := phaseOw3_ok hrun hlow hlev (hlen ▸ Nat.lt_succ_of_le ha)
  obtain ⟨o, hcap, ho⟩ := phaseOw4_ok (s := phaseOw3 s) (fun i hi => runCount_lt hlh hi) (hack ▸ hpulses)
    (congrArg (fun t => t.env.lev0) hack)
  refine ⟨_, _, o, _, hack, ?_, ho⟩
  rw [← hack, hcap, hack]
  simp

end Sys2Proof.Machine
end

section
/-! The capture on a line of runs, and on a line that sticks (`41_onewire.md` R148, R149). -/

namespace Sys2Proof.Machine

/-- Settles O24: OW3 takes the highs and the first low; from there on the line is the samples of 82 measurements. -/
theorem captureRecordsRunLengths : Obligations.CaptureRecordsRunLengths := by
  intro s a l h words rest hp ha hlh hw hlev
  obtain ⟨e, b, o, q, hack, hcap, ho⟩ := capture_runs ha hlh hw hlev
  refine ⟨{ s with ph := .ow4, env := e, ow := b, history := q }, _, ?_, rfl,
    (exec_oneWire (s := { s with ph := .ow4, env := e, ow := b, history := q }) rfl rfl).trans (congrArg _ hcap), rfl,
    fun i hi => ⟨?_, ?_⟩⟩
  · rw [exec_oneWire hp rfl]
    exact congrArg _ hack
  · exact (ho (2 * i) (by omega)).trans (runCount_even i)
  · exact (ho (2 * i + 1) (by omega)).trans (runCount_odd i)

/-- Settles O25: the measurements before the one that times out are a capture of their own. -/
theorem stuckLineIsPulseTimeout : Obligations.StuckLineIsPulseTimeout := by
  intro s j c words rest hp hc hj hcount hw hlev
  rw [timeoutSamples_eq] at hw
  obtain ⟨early, run, rfl, hearly, hlate⟩ := List.map_eq_append_iff.1 hw
  obtain ⟨hlen, hrun⟩ := run_of_levels hlate
  obtain ⟨trace, hphase, hbefore, hafter⟩ := phaseOw4_timeout (rest := rest) hj
    (fun i hi => Nat.lt_succ_of_le (hcount i hi)) hearly hrun hlen (hlev.trans (List.append_assoc ..))
  refine ⟨BitVec.ofNat 7 j, trace, ?_, ?_, hbefore, hafter⟩
  · rw [exec_oneWire hp rfl, phaseAt, hphase]
    exact congrArg _ (fail_eq_abortedWith rfl hc)
  · rw [BitVec.toNat_ofNat]
    exact Nat.mod_eq_of_lt (by omega)

end Sys2Proof.Machine
end

section
/-! SUPPORT. The decoder of OW5 to OW7 on a trace (`41_onewire.md` R150 to R156): the threshold, the frame bit by bit,
the checksum, and what each phase leaves. -/

namespace Sys2Proof.Machine

variable {s : State} {t u : Vector Count 82} {thr : Count}

/-! The threshold. -/

/-- A sum of counts that the accumulator can hold is the accumulator's. -/
theorem foldl_add_toNat (g : Nat → Count) (is : List Nat) (acc : BitVec 21)
    (hfit : acc.toNat + (is.map (fun i => (g i).toNat)).sum < 2 ^ 21) :
    (is.foldl (fun acc i => acc + (g i).setWidth 21) acc).toNat =
      acc.toNat + (is.map (fun i => (g i).toNat)).sum := by
  induction is generalizing acc with
  | nil => rfl
  | cons i is ih =>
    simp only [List.map_cons, List.sum_cons] at hfit
    have hadd : (acc + (g i).setWidth 21).toNat = acc.toNat + (g i).toNat := by
      rw [BitVec.toNat_add, BitVec.toNat_setWidth, Nat.mod_eq_of_lt (by omega : (g i).toNat < 2 ^ 21)]
      exact Nat.mod_eq_of_lt (by omega)
    rw [List.foldl_cons, ih _ (by omega), hadd, List.map_cons, List.sum_cons, Nat.add_assoc]

/-- The low counts of pairs 1 to 40 (R150). -/
def lowCounts (t : Vector Count 82) : List Nat := (List.range 40).map (fun i => (t.getD (2 * (i + 1)) 0).toNat)

theorem map_pairLow (t : Vector Count 82) :
    (List.range' thrFirst (thrLast + 1 - thrFirst)).map (fun i => (pairLow t i).toNat) = lowCounts t := by
  rw [List.range'_eq_map_range, List.map_map]
  refine List.map_congr_left fun i _ => ?_
  simp only [Function.comp, pairLow, thrFirst, Nat.add_comm]

theorem lowCounts_sum_le (ht : ∀ j < owTraceLen, (t.getD j 0).toNat < owMaxspin) :
    (lowCounts t).sum ≤ 40 * owMaxspin := by
  have hle : ∀ x ∈ lowCounts t, x ≤ owMaxspin := by
    intro x hx
    obtain ⟨i, hi, rfl⟩ := List.mem_map.1 hx
    have hlen : owTraceLen = 82 := rfl
    have hi : i < 40 := List.mem_range.1 hi
    exact (ht _ (by omega)).le
  simpa [lowCounts] using List.sum_le_card_nsmul _ _ hle

/-- ACC does not wrap on the counts of a capture. -/
theorem lowSum_toNat (ht : ∀ j < owTraceLen, (t.getD j 0).toNat < owMaxspin) :
    (lowSum t).toNat = (lowCounts t).sum := by
  have hfit : (0 : BitVec 21).toNat + (lowCounts t).sum < 2 ^ 21 :=
    (Nat.zero_add _).trans_lt ((lowCounts_sum_le ht).trans_lt (by decide))
  rw [lowSum, foldl_add_toNat _ _ 0 (map_pairLow t ▸ hfit), map_pairLow]
  exact Nat.zero_add _

theorem threshold_toNat {acc : BitVec 21} (h : acc.toNat ≤ 40 * owMaxspin) :
    (threshold acc).toNat = acc.toNat / 40 := by
  have hmax : owMaxspin = 32000 := rfl
  rw [threshold, BitVec.toNat_setWidth, BitVec.toNat_udiv]
  exact Nat.mod_eq_of_lt (by show acc.toNat / 40 < _; omega)

theorem lowSum_congr (h : ∀ j, 2 ≤ j → t.getD j 0 = u.getD j 0) : lowSum t = lowSum u := by
  refine List.foldl_ext _ _ _ fun acc i hi => ?_
  have hi : 1 ≤ i := (List.mem_range'_1.1 hi).1
  rw [pairLow, pairLow, h _ (by omega)]

/-! The frame. -/

/-- FRAME after the bits of pairs 1 to `n` have been shifted in (R151). -/
def frameAfter (t : Vector Count 82) (thr : Count) (n : Nat) : Vector Byte 5 :=
  (List.range n).foldl
    (fun f k => f.setIfInBounds (k / 8) (shiftIn owShift (f.getD (k / 8) 0) (dataBit t thr k)))
    (Vector.replicate 5 0)

theorem frameAfter_succ (n : Nat) : frameAfter t thr (n + 1) = (frameAfter t thr n).setIfInBounds (n / 8)
    (shiftIn owShift ((frameAfter t thr n).getD (n / 8) 0) (dataBit t thr n)) := by
  rw [frameAfter, List.range_succ, List.foldl_append]
  rfl

theorem shiftIn_getLsbD_zero (x : Byte) (b : Bool) : (shiftIn owShift x b).getLsbD 0 = b := by
  cases b <;> simp [shiftIn, owShift]

theorem shiftIn_getLsbD_succ (x : Byte) (b : Bool) {j : Nat} (hj : j + 1 < 8) :
    (shiftIn owShift x b).getLsbD (j + 1) = x.getLsbD j := by
  rw [BitVec.getLsbD_eq_getElem (by omega : j < 8)]
  cases b <;> simp [shiftIn, owShift, hj]

/-- Bit `k` has moved up by one place for each later bit of its own byte. -/
theorem frameAfter_getLsbD {n k : Nat} (hn : n ≤ 40) (hk : k < n) :
    ((frameAfter t thr n).getD (k / 8) 0).getLsbD (min n (8 * (k / 8) + 8) - 1 - k) = dataBit t thr k := by
  induction n with
  | zero => omega
  | succ n ih =>
    have hget (x : Byte) : ((frameAfter t thr n).setIfInBounds (n / 8) x).getD (k / 8) 0 =
        if n / 8 = k / 8 then x else (frameAfter t thr n).getD (k / 8) 0 := by
      have : k / 8 < 5 := by omega
      simp [Vector.getD, Array.getElem_setIfInBounds, this]
    rw [frameAfter_succ, hget]
    obtain rfl | hkn := Nat.eq_or_lt_of_le (Nat.le_of_lt_succ hk)
    · rw [if_pos rfl, show min (k + 1) (8 * (k / 8) + 8) - 1 - k = 0 by omega, shiftIn_getLsbD_zero]
    · rw [← ih (by omega) hkn]
      split
      · rename_i hbyte
        rw [hbyte, show min (n + 1) (8 * (k / 8) + 8) - 1 - k = min n (8 * (k / 8) + 8) - 1 - k + 1 by omega,
          shiftIn_getLsbD_succ _ _ (by omega)]
      · rw [show min (n + 1) (8 * (k / 8) + 8) = min n (8 * (k / 8) + 8) by omega]

theorem extractFrame_getLsbD {k : Nat} (hk : k < 40) :
    ((extractFrame t thr).getD (k / 8) 0).getLsbD (7 - k % 8) = dataBit t thr k := by
  have h := frameAfter_getLsbD (t := t) (thr := thr) le_rfl hk
  rwa [show min 40 (8 * (k / 8) + 8) - 1 - k = 7 - k % 8 by omega] at h

theorem extractFrame_congr (h : ∀ j, 2 ≤ j → t.getD j 0 = u.getD j 0) : extractFrame t thr = extractFrame u thr := by
  refine List.foldl_ext _ _ _ fun f k _ => ?_
  rw [dataBit, dataBit, pairHigh, pairHigh, h _ (by omega)]

/-! The checksum. -/

theorem eq_checksum_iff (f : Vector Byte 5) :
    f[4] = checksum f ↔ f[4].toNat = (f[0].toNat + f[1].toNat + f[2].toNat + f[3].toNat) % 256 := by
  rw [← BitVec.toNat_inj, checksum]
  simp only [BitVec.toNat_add]
  omega

/-- The frame that OW5 makes of a trace. -/
def frameOf (t : Vector Count 82) : Vector Byte 5 := extractFrame t (threshold (lowSum t))

theorem owDecode_eq (fp : Rat → Rat) (k : Kind) (t : Vector Count 82) :
    owDecode fp k t =
      if (frameOf t)[4] = checksum (frameOf t) then
        some (frameTemperature fp k (frameOf t), frameHumidity fp k (frameOf t))
      else none := by
  simp only [owDecode, eq_checksum_iff, frameOf]

/-! OW6 and OW7. -/

theorem phaseOw6_mismatch (hc : s.crit = true) (h : s.ow.frame[4] ≠ checksum s.ow.frame) :
    phaseOw6 s = s.abortedWith 4 :=
  (if_pos h).trans (fail_eq_abortedWith rfl hc)

theorem phaseOw6_match (hc : s.crit = true) (h : s.ow.frame[4] = checksum s.ow.frame) :
    phaseOw6 s = { s with ph := .ow7, crit := false, history := .crit false :: s.history } := by
  rw [phaseOw6, if_neg (not_not_intro h), setCrit_eq_of_ne (by simp [hc]), gotoPhase]

/-- The magnitude bits of the 22-type temperature (R154). -/
theorem frameMag10_eq (f : Vector Byte 5) : frameMag10 f = f[2].toNat % 128 * 256 + f[3].toNat := by
  have hmask : (f[2] &&& 0x7F).toNat = f[2].toNat % 128 := Nat.and_two_pow_sub_one_eq_mod f[2].toNat 7
  rw [frameMag10, hmask]

/-- The sign bit of the 22-type temperature (R154). -/
theorem getLsbD_seven_iff (x : Byte) : x.getLsbD 7 = true ↔ x.toNat ≥ 128 := by
  rw [show x.getLsbD 7 = x.msb from rfl, BitVec.msb_eq_decide, decide_eq_true_iff]

/-! The machine's run without inputs. -/

/-- With no inputs left, a step of a run is the phase PH names. -/
theorem run_succ_noInput {p : Phase} (n : Nat) (hin : s.inputs = []) (hp : s.ph = p) :
    Host.Core.run core (n + 1) s = Host.Core.run core n (phaseAt Config.params p s) := by
  have hs : core.step s = .next (phaseAt Config.params p s) := by
    rw [← hp, ← phaseOf_eq_phaseAt]
    exact (step_noInput hin).trans (sequencerStep_eq s)
  simp only [Host.Core.run, hs]

/-- What the end of the command shows of a decoded trace: the temperature and the humidity, or ChecksumMismatch
(R152, R156). -/
inductive State.Shows (s : State) : Option (Rat × Rat) → Prop where
  | values {temp hum : Rat} (he : s.err = 0) (hT : s.resT = some (.rational temp))
      (hH : s.resH = some (.rational hum)) : s.Shows (some (temp, hum))
  | mismatch (he : s.err = 4) (hT : s.resT = none) (hH : s.resH = none) : s.Shows none

/-- The steps from OW5 to the end of the command (R156). -/
theorem run_decode (hi : s.FlagInv) (hin : s.inputs = []) (hp : s.ph = .ow5) :
    ∃ v : State, Host.Core.run core 3 s = .next v ∧ v.Ended ∧ v.gpio = s.gpio ∧ v.env = s.env ∧
      v.sensors = s.sensors ∧ v.pinval = none ∧ v.resP = none ∧
      v.Shows (owDecode Config.params.fp s.kindr s.ow.trace) := by
  obtain ⟨-, -, -, he, hr, hc, -⟩ := hi.inFlight (by simp [hp])
  have hc5 : (phaseOw5 s).crit = true := by
    rw [hp] at hc
    exact hc
  have hpinval : s.pinval = none := by
    simp only [State.noResults, Bool.and_eq_true, Option.isNone_iff_eq_none] at hr
    exact hr.2
  have hrun : Host.Core.run core 3 s = Host.Core.run core 1 (phaseOw6 (phaseOw5 s)) :=
    (run_succ_noInput 2 hin hp).trans (run_succ_noInput (s := phaseOw5 s) (p := .ow6) 1 hin rfl)
  rw [owDecode_eq]
  by_cases hsum : (frameOf s.ow.trace)[4] = checksum (frameOf s.ow.trace)
  · rw [phaseOw6_match hc5 hsum] at hrun
    rw [if_pos hsum]
    exact ⟨_, hrun.trans (run_succ_noInput (p := .ow7) 0 hin rfl), ⟨rfl, rfl, rfl, rfl⟩, rfl, rfl, rfl, hpinval, rfl,
      .values he rfl rfl⟩
  · rw [phaseOw6_mismatch hc5 hsum] at hrun
    rw [if_neg hsum]
    exact ⟨_, hrun.trans (run_succ_noInput (p := .idle) 0 hin rfl), ⟨rfl, rfl, rfl, rfl⟩, rfl, rfl, rfl, rfl, rfl,
      .mismatch rfl rfl rfl⟩

end Sys2Proof.Machine
end

section
/-! The decoder (`41_onewire.md` R150 to R156). -/

namespace Sys2Proof.Machine

/-- Settles O26: ACC does not wrap on the counts of a capture, and each byte of FRAME takes eight bits, the first one
highest. -/
theorem thresholdAndBits : Obligations.ThresholdAndBits := by
  intro s hp hi
  have ht : ∀ j < owTraceLen, (s.ow.trace.getD j 0).toNat < owMaxspin := hi (by rw [hp]; rfl)
  have hsum := lowSum_toNat ht
  exact ⟨_, _, _, exec_oneWire hp rfl, hsum, threshold_toNat (hsum.trans_le (lowCounts_sum_le ht)),
    fun k hk => extractFrame_getLsbD hk⟩

/-- Settles O27: neither the sum nor a data bit reads an entry below 2. -/
theorem preambleIsExcluded : Obligations.PreambleIsExcluded := by
  intro fp k t u h
  rw [owDecode, owDecode, lowSum_congr h, extractFrame_congr h]

/-- Settles O28: the sum of bytes mod 256 is the comparison of OW6. -/
theorem checksumDecides : Obligations.ChecksumDecides := by
  intro s hp hc
  rw [exec_oneWire hp rfl, phaseAt]
  exact ⟨fun h => congrArg _ (phaseOw6_mismatch hc (h ∘ (eq_checksum_iff _).1)),
    fun h => congrArg _ (phaseOw6_match hc ((eq_checksum_iff _).2 h))⟩

/-- Settles O29: sign and magnitude of the 22-type, whole bytes of the 11-type. -/
theorem oneWireConversion : Obligations.OneWireConversion := by
  refine ⟨fun s hp hk => ⟨_, frameMag10 s.ow.frame, ?_, rfl, frameMag10_eq _⟩, fun s hp hk => ?_⟩ <;>
    rw [← hk, exec_oneWire hp rfl]
  · simp only [phaseAt, phaseOw7, hk, frameTemperature, getLsbD_seven_iff]
    rfl
  · simp only [phaseAt, phaseOw7, hk]
    rfl

/-- Settles O30: OW5 to OW7 without inputs, by the checksum. -/
theorem decodeIsAFunctionOfTheTrace : Obligations.DecodeIsAFunctionOfTheTrace := by
  intro s hi hin hp
  obtain ⟨t, hrun, hend, hgpio, henv, -, hpin, hresP, hshows⟩ := run_decode hi hin hp
  refine ⟨t, hrun, hend, hgpio, henv, ?_⟩
  generalize owDecode Config.params.fp s.kindr s.ow.trace = d at hshows ⊢
  cases hshows with
  | values he hT hH => exact ⟨he, hT, hH, hresP⟩
  | mismatch he hT hH => exact ⟨he, by simp [State.noResults, hT, hH, hresP, hpin]⟩

end Sys2Proof.Machine
end

section
/-! SUPPORT. The one-wire pin from OW1b on: what releases it, and what leaves it released (`41_onewire.md` R143, R144,
R160). -/

namespace Sys2Proof.Machine

variable {s t : State} {p : Phase}

/-- OW1b drives the pin's latch low. -/
theorem phaseOw1b_releaseInv (s : State) : (phaseOw1b s).ReleaseInv := by
  refine ⟨fun _ => (and_not_pinBit_getLsbD s.gpio.out s.pinr s.pinr.isLt).trans ?_, nofun⟩
  simp

/-- OW2 makes the pin an input, and leaves its latch. -/
theorem phaseOw2_releaseInv (hi : s.ReleaseInv) (hp : s.ph = .ow2) : (phaseOw2 s).ReleaseInv := by
  obtain ⟨hlatch, -⟩ := hi
  refine ⟨nofun, fun _ => ⟨?_, hlatch hp⟩⟩
  rw [phaseOw2, pinSetInput, rewriteFsel_eq]
  exact (congrArg (fselGet s.pinr) (Vector.getElem_set_self _)).trans (fselGet_fselPut_same s.pinr fselInput _)

/-- The field of a pin is 0b000 and its latch is 0. -/
def Gpio.released (g : Gpio) (x : Pin) : Prop :=
  fselGet x g.fsel[fselIndex x] = fselInput ∧ g.out.getLsbD x.toNat = false

theorem State.ReleaseInv.pinReleased (hi : s.ReleaseInv) (hr : s.ph.released = true) : s.gpio.released s.pinr := by
  obtain ⟨-, hrel⟩ := hi
  exact hrel hr

theorem Phase.oneWire_of_released (hp : p.released = true) : p.oneWire = true := by
  revert hp
  cases p <;> decide

/-- From its release on, no phase moves the pin. -/
theorem phaseAt_released (P : Params) (hp : p.released = true) (s : State) :
    (phaseAt P p s).gpio = s.gpio ∧ (phaseAt P p s).pinr = s.pinr := by
  cases p <;> simp only [phaseAt]
  case ow3 =>
    obtain ⟨e, c, h, hu, -⟩ := spinWhile_frame s.pinr true s
    unfold phaseOw3
    rw [hu]
    split <;> exact ⟨rfl, rfl⟩
  case ow4 =>
    obtain ⟨e, o, h, hu, -⟩ := captureFrom_frame s.pinr owTraceLen 0 (clearTrace s)
    unfold phaseOw4
    rw [hu]
    split <;> exact ⟨rfl, rfl⟩
  case ow6 =>
    unfold phaseOw6
    split <;> exact ⟨rfl, rfl⟩
  case ow5 | ow7 => exact ⟨rfl, rfl⟩
  all_goals cases hp

theorem phaseAt_pinReleased (P : Params) (hp : p.released = true) (h : s.gpio.released s.pinr) :
    (phaseAt P p s).gpio.released (phaseAt P p s).pinr := by
  obtain ⟨hgpio, hpinr⟩ := phaseAt_released P hp s
  rwa [hgpio, hpinr]

/-- A phase that asks nothing of the pin. -/
theorem releaseInv_of_ph {q : Phase} (hq : t.ph = q) (h2 : q ≠ .ow2) (hr : q.released = false) : t.ReleaseInv :=
  ⟨fun h => absurd (hq.symm.trans h) h2, fun h => by simp [hq, hr] at h⟩

theorem StartOutcome.releaseInv (h : StartOutcome s t) : t.ReleaseInv := by
  cases h with
  | accepted hq => obtain rfl | rfl | rfl := hq <;> exact releaseInv_of_ph rfl nofun rfl
  | fails | succeeds => exact releaseInv_of_ph rfl nofun rfl

/-- OW1b and OW2 establish what is asked of the pin, the phases after them keep it, and no other phase goes on to one
that asks for it. -/
theorem phaseAt_releaseInv (P : Params) (hi : s.ReleaseInv) (hp : s.ph = p) : (phaseAt P p s).ReleaseInv := by
  by_cases hr : p.released = true
  · have hpin := phaseAt_pinReleased P hr (hi.pinReleased (hp ▸ hr))
    exact ⟨fun _ => hpin.2, fun _ => hpin⟩
  by_cases hask : p = .idle ∨ p = .ow1b ∨ p = .ow2
  · obtain rfl | rfl | rfl := hask
    · exact hi
    · exact phaseOw1b_releaseInv s
    · exact phaseOw2_releaseInv hi hp
  · have hnext : p ≠ .idle ∧ p.following ≠ .ow2 ∧ p.following.released = false := by
      revert hr hask
      cases p <;> decide
    obtain ⟨hidle, h2, hrel⟩ := hnext
    obtain hph | hph := (phaseAt_outcome (s := s) P hidle).ph
    · exact releaseInv_of_ph hph h2 hrel
    · exact releaseInv_of_ph hph (by decide) rfl

/-! The steps of READ_ONEWIRE up to the capture, without inputs. -/

/-- The state in which OW3 starts to listen, from OW0 with GINIT. -/
def listening (s : State) : State := phaseOw2 (phaseOw1b (phaseOw1a (gotoPhase .ow1a s)))

theorem listening_frame (s : State) :
    ∃ g d q, listening s = { s with ph := .ow3, crit := true, gpio := g, delay := d, history := q } := ⟨_, _, _, rfl⟩

theorem listening_released (s : State) : (listening s).gpio.released s.pinr :=
  (phaseOw2_releaseInv (phaseOw1b_releaseInv _) rfl).pinReleased rfl

theorem run_request (n : Nat) (hin : s.inputs = []) (hp : s.ph = .ow0) (hg : s.ginit = true) :
    Host.Core.run core (n + 4) s = Host.Core.run core n (listening s) := by
  have h0 : phaseOw0 s = gotoPhase .ow1a s := if_pos hg
  calc Host.Core.run core (n + 4) s
    _ = Host.Core.run core (n + 3) (phaseOw0 s) := run_succ_noInput (n + 3) hin hp
    _ = Host.Core.run core (n + 3) (gotoPhase .ow1a s) := congrArg _ h0
    _ = Host.Core.run core (n + 2) (phaseOw1a (gotoPhase .ow1a s)) := run_succ_noInput (p := .ow1a) (n + 2) hin rfl
    _ = Host.Core.run core (n + 1) (phaseOw1b (phaseOw1a (gotoPhase .ow1a s))) :=
      run_succ_noInput (p := .ow1b) (n + 1) hin rfl
    _ = Host.Core.run core n (listening s) := run_succ_noInput (p := .ow2) n hin rfl

/-- The acknowledge and the capture on a line of runs (R149). -/
theorem run_capture {a : Nat} {l h : Nat → Nat} {words rest : List Word} (n : Nat) (hin : s.inputs = [])
    (hp : s.ph = .ow3) (ha : a ≤ 31999) (hlh : RunsFit l h)
    (hw : words.map (fun w => w.getLsbD s.pinr.toNat) = captureSamples a l h) (hlev : s.env.lev0 = words ++ rest) :
    ∃ o q, Host.Core.run core (n + 2) s =
        Host.Core.run core n { s with ph := .ow5, ow := o, env := { s.env with lev0 := rest }, history := q } ∧
      o.trace = runTrace l h := by
  obtain ⟨e, b, o, q, hack, hcap, ho⟩ := capture_runs ha hlh hw hlev
  refine ⟨o, words.reverse.map (fun x => Event.memRead 13 x) ++ s.history, ?_, eq_runTrace ho⟩
  calc Host.Core.run core (n + 2) s
    _ = Host.Core.run core (n + 1) (phaseOw3 s) := run_succ_noInput (n + 1) hin hp
    _ = Host.Core.run core (n + 1) { s with ph := .ow4, env := e, ow := b, history := q } := congrArg _ hack
    _ = Host.Core.run core n (phaseOw4 { s with ph := .ow4, env := e, ow := b, history := q }) :=
      run_succ_noInput (p := .ow4) n hin rfl
    _ = _ := congrArg _ hcap

/-- A command in flight with the flags, ERR and the results as they are then is in the invariant. -/
theorem State.FlagInv.of_inFlight (hp : s.ph ≠ .idle) (hb : s.busy = true) (hd : s.done = false) (hh : s.halt = false)
    (he : s.err = 0) (hr : s.noResults = true) (hc : s.crit = s.ph.critical) (hg : s.ginit = true) : s.FlagInv :=
  gotoPhase_flagInv (s := s) hp hb hd hh he hr hc fun _ => hg

/-- From OW0 with GINIT to the end of the command, on a line of runs. -/
theorem run_oneWire {a : Nat} {l h : Nat → Nat} {words rest : List Word} (hi : s.FlagInv) (hin : s.inputs = [])
    (hp : s.ph = .ow0) (hg : s.ginit = true) (ha : a ≤ 31999) (hlh : RunsFit l h)
    (hw : words.map (fun w => w.getLsbD s.pinr.toNat) = captureSamples a l h) (hlev : s.env.lev0 = words ++ rest) :
    ∃ v : State, Host.Core.run core 9 s = .next v ∧ v.Ended ∧ v.env = { s.env with lev0 := rest } ∧
      v.sensors = s.sensors ∧ v.pinval = none ∧ v.resP = none ∧ v.gpio.released s.pinr ∧
      v.Shows (owDecode Config.params.fp s.kindr (runTrace l h)) := by
  obtain ⟨hb, hd, hh, he, hr, -, -⟩ := hi.inFlight (by simp [hp])
  obtain ⟨g, d, q, hlisten⟩ := listening_frame s
  have hrequest := run_request 5 hin hp hg
  have hrel := listening_released s
  rw [hlisten] at hrequest hrel
  obtain ⟨o, q', hcapture, htrace⟩ := run_capture 3
    (s := { s with ph := .ow3, crit := true, gpio := g, delay := d, history := q }) hin rfl ha hlh hw hlev
  obtain ⟨v, hdecode, hend, hgpio, henv, hsensors, hpinval, hresP, hshows⟩ := run_decode
    (s := { s with
      ph := .ow5, crit := true, gpio := g, delay := d, ow := o, env := { s.env with lev0 := rest }, history := q' })
    (.of_inFlight nofun hb hd hh he hr rfl hg) hin rfl
  exact ⟨v, hrequest.trans (hcapture.trans hdecode), hend, henv, hsensors, hpinval, hresP, hgpio ▸ hrel,
    htrace ▸ hshows⟩

end Sys2Proof.Machine
end

section
/-! The released pin, and READ_ONEWIRE as a whole (`41_onewire.md` R140 to R160). -/

namespace Sys2Proof.Machine

/-- Settles O54: OW1b drives the latch low, OW2 releases the pin, and no later phase moves it. -/
theorem stepKeepsReleaseInv : Obligations.StepKeepsReleaseInv := by
  refine ⟨fun s t hi h => ?_, fun s t hi hr h => ?_⟩
  · obtain ⟨rest, r, hr, h⟩ := step_next h
    have hir : r.ReleaseInv := hr ▸ hi
    obtain rfl | ⟨n, rfl⟩ | ⟨-, -, rfl⟩ | ⟨-, -, rfl⟩ | ⟨i, he, -⟩ := h
    · exact hir
    · obtain ⟨e, l, h⟩ := hostRead_frame Config.params.resRepr n r
      exact h ▸ hir
    · exact releaseInv_of_ph rfl nofun rfl
    · exact releaseInv_of_ph rfl nofun rfl
    · obtain ⟨-, rfl⟩ | ⟨-, rfl⟩ := exec_next he
      · exact (startOf_outcome i).releaseInv
      · exact phaseOf_eq_phaseAt r ▸ phaseAt_releaseInv Config.params hir rfl
  · rw [exec_oneWire rfl (Phase.oneWire_of_released hr)] at h
    obtain rfl := Host.Outcome.next.inj h
    have hpin := phaseAt_pinReleased Config.params hr (hi.pinReleased hr)
    rwa [(phaseAt_released Config.params hr s).2] at hpin

/-- Settles O44: the accept leads to OW0, and from there the request, the capture and the decode run one after the
other. -/
theorem oneWireWholeCommand : Obligations.OneWireWholeCommand := by
  intro s k p a l h words rest hp hi hg hin ha hlh hw hlev
  have hhalt : s.halt = false := by
    obtain ⟨-, -, -, -, -, hhalt, -⟩ := hi
    simpa [hg] using hhalt
  have hexec : exec (.readOneWire k p) s = .next (startOf (.readOneWire k p) s) := exec_idle hp
  obtain ⟨v, hrun, hend, henv, hsensors, hpinval, hresP, ⟨hfield, hlatch⟩, hshows⟩ :=
    run_oneWire (exec_flagInv hi (fun _ => hhalt) hexec) hin rfl hg ha hlh hw hlev
  refine ⟨_, v, hexec, hrun, hend, henv, hsensors, hpinval, hresP, hfield, hlatch, ?_⟩
  change v.Shows (owDecode Config.params.fp k (runTrace l h)) at hshows
  generalize owDecode Config.params.fp k (runTrace l h) = d at hshows ⊢
  cases hshows with
  | values he hT hH => exact ⟨he, hT, hH⟩
  | mismatch he hT hH => exact ⟨he, hT, hH⟩

end Sys2Proof.Machine
end

section
/-! SUPPORT. The two phases that READ_BME280 and READ_BMP180 share, opening the bus and the chip-ID read (`42_bme280.md`
R181, R182; `43_bmp180.md` R221, R222): what each leaves; and the answers of the bus on a script. -/

namespace Sys2Proof.Machine

variable {s : State} {p : Phase}

theorem i2cOpen_state {ok : Bool} (h : nextOpen s = ok) :
    (i2cOpen s).2 = { s with env := s.env.drewOpen, history := .i2cOpen s.addr7 ok :: s.history } := by
  subst h
  rfl

theorem phaseAt_busOpen_ok (P : Params) (hp : p = .b1 ∨ p = .p1) (h : nextOpen s = true) :
    phaseAt P p s = { s with
      ph := p.following, env := s.env.drewOpen, history := .i2cOpen s.addr7 true :: s.history } := by
  have hgo : phaseAt P p s = gotoPhase p.following (i2cOpen s).2 := by
    obtain rfl | rfl := hp <;> exact if_pos h
  rw [hgo, i2cOpen_state h]
  rfl

theorem phaseAt_busOpen_fail (P : Params) (hp : p = .b1 ∨ p = .p1) (hc : s.crit = false) (h : nextOpen s = false) :
    phaseAt P p s = { s.failedWith 5 with
      env := s.env.drewOpen, history := .i2cOpen s.addr7 false :: s.history } := by
  have hn : ¬ (i2cOpen s).1 = true := Bool.eq_false_iff.1 h
  calc phaseAt P p s = fail .busOpenFailure (i2cOpen s).2 := by obtain rfl | rfl := hp <;> exact if_neg hn
    _ = State.failedWith 5 (i2cOpen s).2 := fail_eq_failedWith rfl hc
    _ = _ := by rw [i2cOpen_state h]; rfl

theorem phaseAt_chipId (P : Params) (hp : p = .b2 ∨ p = .p2) :
    phaseAt P p s = chipIdPhase P.chipidMandatory 0xD0 p.following s := by
  obtain rfl | rfl := hp <;> rfl

theorem chipIdPhase_full {m : Bool} {r : Byte} {next : Phase} {b : List Byte} (h : nextRead 1 s = some b) :
    chipIdPhase m r next s = { s.afterRead r 1 with ph := next, chipid := some (b.getD 0 0) } := by
  obtain ⟨b', hb, hs⟩ | ⟨hn, -⟩ | ⟨hn, -⟩ := chipIdPhase_cases m r next s
  · cases hb.symm.trans h
    exact hs
  · cases hn.symm.trans h
  · cases hn.symm.trans h

theorem chipIdPhase_short {m : Bool} {r : Byte} {next : Phase} (hc : s.crit = false) (h : nextRead 1 s = none) :
    chipIdPhase m r next s =
      if m then (s.afterRead r 1).failedWith 6 else { s.afterRead r 1 with ph := next } := by
  obtain ⟨b, hb, -⟩ | ⟨-, rfl, hs⟩ | ⟨-, rfl, hs⟩ := chipIdPhase_cases m r next s
  · cases hb.symm.trans h
  · exact hs.trans (fail_eq_failedWith rfl hc)
  · exact hs

/-! The answers the environment has ready. -/

theorem nextOpen_scripted {ok : Bool} {opens : List Bool} (h : s.env.i2cOpen = ok :: opens) : nextOpen s = ok := by
  simp [nextOpen, answer, h]

theorem Env.drewOpen_scripted {e : Env} {ok : Bool} {opens : List Bool} (h : e.i2cOpen = ok :: opens) :
    e.drewOpen = { e with i2cOpen := opens } := by
  simp [Env.drewOpen, drawsAfter, h]

theorem nextRead_scripted {n : Nat} {b : List Byte} {reads : List (List Byte)} (h : s.env.i2cRead = b :: reads)
    (hb : b.length = n) : nextRead n s = some b := by
  simp [nextRead, fullRead, answer, h, ← hb]

theorem Env.drewRead_scripted {e : Env} {b : List Byte} {reads : List (List Byte)} (h : e.i2cRead = b :: reads) :
    e.drewRead = { e with i2cRead := reads } := by
  simp [Env.drewRead, drawsAfter, h]

/-! The phases on a script; the event of the access is left open. -/

theorem phaseAt_busOpen_scripted (P : Params) {opens : List Bool} (hp : p = .b1 ∨ p = .p1)
    (h : s.env.i2cOpen = true :: opens) :
    ∃ q, phaseAt P p s = { s with ph := p.following, env := { s.env with i2cOpen := opens }, history := q } :=
  ⟨_, by rw [phaseAt_busOpen_ok P hp (nextOpen_scripted h), Env.drewOpen_scripted h]⟩

theorem phaseAt_chipId_scripted (P : Params) {id : Byte} {reads : List (List Byte)} (hp : p = .b2 ∨ p = .p2)
    (h : s.env.i2cRead = [id] :: reads) :
    ∃ q, phaseAt P p s = { s with
      ph := p.following, chipid := some id, env := { s.env with i2cRead := reads }, history := q } :=
  ⟨_, by
    rw [phaseAt_chipId P hp, chipIdPhase_full (nextRead_scripted h rfl), State.afterRead, Env.drewRead_scripted h]
    rfl⟩

theorem mandatoryRead_scripted (r : Byte) {n : Nat} {b : List Byte} {reads : List (List Byte)}
    (h : s.env.i2cRead = b :: reads) (hb : b.length = n) :
    ∃ q, ∀ use, mandatoryRead r n use s = use b { s with env := { s.env with i2cRead := reads }, history := q } :=
  ⟨_, fun use => by rw [mandatoryRead_full (nextRead_scripted h hb), State.afterRead, Env.drewRead_scripted h]⟩

/-- As `run_succ_noInput`, with the state the phase leaves given. -/
theorem run_succ_phase {t : State} (n : Nat) (hin : s.inputs = []) (hp : s.ph = p)
    (h : phaseAt Config.params p s = t) : Host.Core.run core (n + 1) s = Host.Core.run core n t :=
  h ▸ run_succ_noInput n hin hp

/-- The first two steps of an I2C command without inputs, when the bus opens and the chip ID is read. -/
theorem run_identify {id : Byte} {opens : List Bool} {reads : List (List Byte)} (n : Nat) (hin : s.inputs = [])
    (hph : s.ph = p) (hp : p = .b1 ∨ p = .p1) (ho : s.env.i2cOpen = true :: opens)
    (hr : s.env.i2cRead = [id] :: reads) :
    ∃ q, Host.Core.run core (n + 2) s = Host.Core.run core n { s with
      ph := p.following.following, chipid := some id
      env := { s.env with i2cOpen := opens, i2cRead := reads }, history := q } := by
  have hp2 : p.following = .b2 ∨ p.following = .p2 := by obtain rfl | rfl := hp <;> simp [Phase.following]
  obtain ⟨q, hopen⟩ := phaseAt_busOpen_scripted Config.params hp ho
  obtain ⟨q', hid⟩ := phaseAt_chipId_scripted Config.params hp2
    (s := { s with ph := p.following, env := { s.env with i2cOpen := opens }, history := q }) hr
  exact ⟨q', (run_succ_phase (n + 1) hin hph hopen).trans (run_succ_phase n hin rfl hid)⟩

end Sys2Proof.Machine
end

section
/-! The bus and the chip ID (`42_bme280.md` R181, R182; `43_bmp180.md` R221, R222). -/

namespace Sys2Proof.Machine

/-- Settles O31: both commands open the bus by the same draw, and CRIT is 0 there, so `fail` adds no event. -/
theorem busOpenDecides : Obligations.BusOpenDecides := by
  intro s hi first second i h hp
  obtain ⟨rfl, rfl, rfl⟩ | ⟨rfl, rfl, rfl⟩ := h <;> rw [exec_phaseAt hp (by simp only [State.inFlight, hp])]
  · exact ⟨fun h => congrArg _ (phaseAt_busOpen_ok _ (.inl rfl) h),
      fun h => congrArg _ (phaseAt_busOpen_fail _ (.inl rfl) (hi.crit_onBus (hp ▸ rfl)) h)⟩
  · exact ⟨fun h => congrArg _ (phaseAt_busOpen_ok _ (.inr rfl) h),
      fun h => congrArg _ (phaseAt_busOpen_fail _ (.inr rfl) (hi.crit_onBus (hp ▸ rfl)) h)⟩

/-- Settles O32: both chip-ID reads are one phase, which reads one byte at 0xD0. -/
theorem chipIdIsDiagnostic : Obligations.ChipIdIsDiagnostic := by
  intro s hi here next i h hp
  obtain ⟨rfl, rfl, rfl⟩ | ⟨rfl, rfl, rfl⟩ := h <;> rw [exec_phaseAt hp (by simp only [State.inFlight, hp])] <;>
    exact ⟨fun b hb => congrArg _ (chipIdPhase_full hb),
      fun hn => congrArg _ (chipIdPhase_short (hi.crit_onBus (hp ▸ rfl)) hn)⟩

end Sys2Proof.Machine
end

section
/-! SUPPORT. The phases of READ_BME280 after the chip ID (`42_bme280.md` R183 to R191): the data bytes as numbers, the
bytes the sensor receives, truncation and the clamp, the two ways B7 ends, and the runs of the phases on a script. -/

namespace Sys2Proof.Machine

variable {s : State}

theorem append_byte_toNat {n : Nat} (hi : BitVec n) (lo : Byte) : (hi ++ lo).toNat = hi.toNat * 256 + lo.toNat := by
  rw [BitVec.toNat_append, ← Nat.shiftLeft_add_eq_or_of_lt lo.isLt, Nat.shiftLeft_eq]

theorem bmeAdc20_toNat (msb lsb xlsb : Byte) :
    (bmeAdc20 msb lsb xlsb).toNat = (msb.toNat * 65536 + lsb.toNat * 256 + xlsb.toNat) / 16 := by
  have := msb.isLt
  have := lsb.isLt
  have := xlsb.isLt
  rw [bmeAdc20, BitVec.extractLsb'_toNat, append_byte_toNat, append_byte_toNat, Nat.shiftRight_eq_div_pow]
  omega

/-- The three raw readings of the data burst (R186). -/
theorem bmeData_toNat (d : List Byte) (b : BmeBuf) :
    (bmeData d b).adcP.toNat = ((d.getD 0 0).toNat * 65536 + (d.getD 1 0).toNat * 256 + (d.getD 2 0).toNat) / 16 ∧
    (bmeData d b).adcT.toNat = ((d.getD 3 0).toNat * 65536 + (d.getD 4 0).toNat * 256 + (d.getD 5 0).toNat) / 16 ∧
    (bmeData d b).adcH.toNat = (d.getD 6 0).toNat * 256 + (d.getD 7 0).toNat :=
  ⟨bmeAdc20_toNat _ _ _, bmeAdc20_toNat _ _ _, append_byte_toNat _ _⟩

theorem phaseB5_eq (P : Params) (s : State) : phaseB5 P s = { s with
    ph := .b6, delay := 4500
    sensors := ((s.sensors.write (sensorKey s.addr7 0xF2) P.bmeValCtrlHum).write
      (sensorKey s.addr7 0xF4) P.bmeValCtrlMeas).write (sensorKey s.addr7 0xF5) P.bmeValConfig
    history := .wait 4500 :: .i2cWrite s.addr7 0xF5 P.bmeValConfig :: .i2cWrite s.addr7 0xF4 P.bmeValCtrlMeas ::
      .i2cWrite s.addr7 0xF2 P.bmeValCtrlHum :: s.history } := by
  simp only [phaseB5, gotoPhase, wait, i2cWrite, emit, bmeRegConfig, bmeRegCtrlMeas, bmeRegCtrlHum, bmeConvWaitUs]

/-- The slave has received the three configuration bytes (R185). -/
def Memory.Configured (P : Params) (a : Addr7) (m : Memory) : Prop :=
  m.read (sensorKey a 0xF2) = some P.bmeValCtrlHum ∧ m.read (sensorKey a 0xF4) = some P.bmeValCtrlMeas ∧
  m.read (sensorKey a 0xF5) = some P.bmeValConfig

/-- B5 configures the slave: the three bytes go to three registers. -/
theorem phaseB5_configures (P : Params) (s : State) :
    ∃ m q, phaseB5 P s = { s with ph := .b6, delay := 4500, sensors := m, history := q } ∧
      m.Configured P s.addr7 := by
  have hne {r q : Byte} (h : r ≠ q) : sensorKey s.addr7 r ≠ sensorKey s.addr7 q := fun hk => h (sensorKey_inj hk).2
  refine ⟨_, _, phaseB5_eq P s, ?_, ?_, Memory.read_write_same ..⟩
  · rw [Memory.read_write_other _ _ (hne (by decide)), Memory.read_write_other _ _ (hne (by decide)),
      Memory.read_write_same]
  · rw [Memory.read_write_other _ _ (hne (by decide)), Memory.read_write_same]

/-! Truncation toward zero (R6). -/

theorem truncRat_of_nonneg {q : Rat} (h : 0 ≤ q) : truncRat q = ⌊q⌋ := by
  rw [truncRat, Rat.floor_def', Int.tdiv_eq_ediv_of_nonneg (Rat.num_nonneg.2 h)]

theorem truncRat_neg (q : Rat) : truncRat (-q) = -truncRat q := by
  simp only [truncRat, Rat.neg_num, Rat.neg_den, Int.neg_tdiv]

theorem truncRat_of_neg {q : Rat} (h : q < 0) : truncRat q = ⌈q⌉ := by
  have hneg : truncRat (-q) = ⌊-q⌋ := truncRat_of_nonneg (by linarith)
  rw [truncRat_neg, Int.floor_neg] at hneg
  exact neg_inj.1 hneg

theorem clampPercent_mem (q : Rat) : 0 ≤ clampPercent q ∧ clampPercent q ≤ 100 := by
  unfold clampPercent
  split_ifs with h1 h2
  · norm_num
  · norm_num
  · exact ⟨not_lt.1 h2, not_lt.1 h1⟩

/-! B7. -/

/-- The divisor of the pressure, from the coefficients and the raw readings (R188). -/
def BmeBuf.divisor (fp : Rat → Rat) (b : BmeBuf) : Rat :=
  bmePressDivisor fp b.coef
    (bmePressV1 fp (bmeTFine fp (bmeVar1 fp b.coef b.adcT.toNat) (bmeVar2 fp b.coef b.adcT.toNat)))

/-- The temporaries of the compensation, from the coefficients and the raw readings (R187 to R189). -/
def BmeBuf.compensated (fp : Rat → Rat) (b : BmeBuf) : BmeTmp :=
  let var1 := bmeVar1 fp b.coef b.adcT.toNat
  let var2 := bmeVar2 fp b.coef b.adcT.toNat
  let tFine := bmeTFine fp var1 var2
  { var1 := var1
    var2 := var2
    tFine := tFine
    varH := bmeHumidityRaw fp b.coef tFine b.adcH.toNat
    p := bmePressP fp b.adcP.toNat (bmePressV2 fp b.coef (bmePressV1 fp tFine)) (b.divisor fp) }

theorem phaseB7_fails {fp : Rat → Rat} (h : s.bme.divisor fp = 0) :
    phaseB7 fp s = fail .arithFault { s with bme := { s.bme with tmp :=
      { s.bme.compensated fp with varH := s.bme.tmp.varH, p := s.bme.tmp.p } } } :=
  if_pos h

theorem phaseB7_commits {fp : Rat → Rat} (h : s.bme.divisor fp ≠ 0) :
    phaseB7 fp s = { s with
      ph := .idle, busy := false, done := true, bme := { s.bme with tmp := s.bme.compensated fp }
      resT := some (.rational (bmeTempC fp (s.bme.compensated fp).var1 (s.bme.compensated fp).var2))
      resP := some (.rational (bmePressPa fp s.bme.coef (s.bme.compensated fp).p))
      resH := some (.rational (clampPercent (s.bme.compensated fp).varH)) } :=
  if_neg h

/-! The steps without inputs, when every read is answered in full. -/

theorem phaseB3_scripted {c : List Byte} {reads : List (List Byte)} (hc : c.length = 24)
    (hr : s.env.i2cRead = c :: reads) :
    ∃ q, phaseB3 s = { s with
      ph := .b4, bme := { s.bme with coef := bmeCalibTp c s.bme.coef }
      env := { s.env with i2cRead := reads }, history := q } := by
  obtain ⟨q, h⟩ := mandatoryRead_scripted bmeRegCalibTp hr hc
  exact ⟨q, h _⟩

theorem phaseB4_scripted {h1 : Byte} {h : List Byte} {reads : List (List Byte)} (hh : h.length = 7)
    (hr : s.env.i2cRead = [h1] :: h :: reads) :
    ∃ q, phaseB4 s = { s with
      ph := .b5, bme := { s.bme with coef := bmeCalibH2 h (bmeCalibH1 [h1] s.bme.coef) }
      env := { s.env with i2cRead := reads }, history := q } := by
  obtain ⟨q, hfirst⟩ := mandatoryRead_scripted bmeRegCalibH1 hr (n := 1) rfl
  obtain ⟨q', hsecond⟩ := mandatoryRead_scripted bmeRegCalibH2 (s := { s with
    bme := { s.bme with coef := bmeCalibH1 [h1] s.bme.coef }
    env := { s.env with i2cRead := h :: reads }, history := q }) rfl hh
  exact ⟨q', (hfirst _).trans (hsecond _)⟩

theorem phaseB6_scripted {d : List Byte} {reads : List (List Byte)} (hd : d.length = 8)
    (hr : s.env.i2cRead = d :: reads) :
    ∃ q, phaseB6 s = { s with
      ph := .b7, bme := bmeData d s.bme, env := { s.env with i2cRead := reads }, history := q } := by
  obtain ⟨q, h⟩ := mandatoryRead_scripted bmeRegData hr hd
  exact ⟨q, h _⟩

/-- B3 and B4: the three calibration reads (R183, R184). -/
theorem run_calibrate {h1 : Byte} {c h : List Byte} {reads : List (List Byte)} (n : Nat) (hin : s.inputs = [])
    (hp : s.ph = .b3) (hc : c.length = 24) (hh : h.length = 7) (hr : s.env.i2cRead = c :: [h1] :: h :: reads) :
    ∃ q, Host.Core.run core (n + 2) s = Host.Core.run core n { s with
      ph := .b5, bme := { s.bme with coef := bmeCalibH2 h (bmeCalibH1 [h1] (bmeCalibTp c s.bme.coef)) }
      env := { s.env with i2cRead := reads }, history := q } := by
  obtain ⟨q, hb3⟩ := phaseB3_scripted hc hr
  obtain ⟨q', hb4⟩ := phaseB4_scripted (reads := reads) hh (s := { s with
    ph := .b4, bme := { s.bme with coef := bmeCalibTp c s.bme.coef }
    env := { s.env with i2cRead := [h1] :: h :: reads }, history := q }) rfl
  exact ⟨q', (run_succ_phase (n + 1) hin hp hb3).trans (run_succ_phase (p := .b4) n hin rfl hb4)⟩

/-- B5 and B6: the configuration, the wait and the data burst (R185, R186). -/
theorem run_measure {d : List Byte} {reads : List (List Byte)} (n : Nat) (hin : s.inputs = []) (hp : s.ph = .b5)
    (hd : d.length = 8) (hr : s.env.i2cRead = d :: reads) :
    ∃ m q, Host.Core.run core (n + 2) s = Host.Core.run core n { s with
        ph := .b7, delay := 4500, sensors := m, bme := bmeData d s.bme
        env := { s.env with i2cRead := reads }, history := q } ∧
      m.Configured Config.params s.addr7 := by
  obtain ⟨m, q, hb5, hm⟩ := phaseB5_configures Config.params s
  obtain ⟨q', hb6⟩ := phaseB6_scripted hd
    (s := { s with ph := .b6, delay := 4500, sensors := m, history := q }) hr
  exact ⟨m, q', (run_succ_phase (n + 1) hin hp hb5).trans (run_succ_phase (p := .b6) n hin rfl hb6), hm⟩

/-- B1 to B6. -/
theorem run_bme280 {id h1 : Byte} {c h d : List Byte} {opens : List Bool} {reads : List (List Byte)} (n : Nat)
    (hin : s.inputs = []) (hp : s.ph = .b1) (hc : c.length = 24) (hh : h.length = 7) (hd : d.length = 8)
    (ho : s.env.i2cOpen = true :: opens) (hr : s.env.i2cRead = [id] :: c :: [h1] :: h :: d :: reads) :
    ∃ m q, Host.Core.run core (n + 6) s = Host.Core.run core n { s with
        ph := .b7, chipid := some id, delay := 4500, sensors := m
        bme := bmeData d { s.bme with coef := bmeCalibH2 h (bmeCalibH1 [h1] (bmeCalibTp c s.bme.coef)) }
        env := { s.env with i2cOpen := opens, i2cRead := reads }, history := q } ∧
      m.Configured Config.params s.addr7 := by
  obtain ⟨q, hidentify⟩ := run_identify (n + 4) hin hp (.inl rfl) ho hr
  obtain ⟨q', hcalibrate⟩ := run_calibrate (n + 2) (reads := d :: reads) (s := { s with
    ph := .b3, chipid := some id
    env := { s.env with i2cOpen := opens, i2cRead := c :: [h1] :: h :: d :: reads }, history := q })
    hin rfl hc hh rfl
  obtain ⟨m, q'', hmeasure, hm⟩ := run_measure n (reads := reads) (s := { s with
    ph := .b5, chipid := some id
    bme := { s.bme with coef := bmeCalibH2 h (bmeCalibH1 [h1] (bmeCalibTp c s.bme.coef)) }
    env := { s.env with i2cOpen := opens, i2cRead := d :: reads }, history := q' }) hin rfl hd rfl
  exact ⟨m, q'', hidentify.trans (hcalibrate.trans hmeasure), hm⟩

end Sys2Proof.Machine
end

section
/-! READ_BME280: its configuration and data, its compensation, and the command as a whole (`42_bme280.md`). -/

namespace Sys2Proof.Machine

/-- Settles O35: B5 is three writes and a wait, and the data bytes are put together highest first. -/
theorem bmeConfigurationAndData : Obligations.BmeConfigurationAndData := by
  refine ⟨fun s hp => ?_, fun s d hp hd => ⟨_, _, _, ?_, bmeData_toNat d s.bme⟩⟩ <;>
    rw [exec_phaseAt hp (by simp only [State.inFlight, hp]), phaseAt]
  · rw [phaseB5_eq]
  · rw [phaseB6, mandatoryRead_full hd]
    rfl

/-- Settles O38: B7 tests the divisor before it writes a result, and CRIT is 0 there, so `fail` adds no event. -/
theorem bmeCommitIsAllOrNothing : Obligations.BmeCommitIsAllOrNothing := by
  rintro s fp k var1 var2 v1 divisor p raw tFine hp hi rfl rfl rfl rfl rfl rfl rfl rfl rfl
  rw [exec_phaseAt hp (by simp only [State.inFlight, hp]), phaseAt]
  by_cases h : s.bme.divisor Config.params.fp = 0
  · refine congrArg _ (Eq.trans ?_ (if_pos h).symm)
    rw [phaseB7_fails h]
    exact fail_eq_failedWith rfl (hi.crit_onBus (hp ▸ rfl))
  · exact congrArg _ ((phaseB7_commits h).trans (if_neg h).symm)

/-- Settles O39: with FP the identity each formula is its expression as written; dropping the fraction toward zero is
the floor of a sum that is not negative and the ceiling of one that is. -/
theorem bmeFormulas : Obligations.BmeFormulas := by
  intro k adcT adcP adcH tFine
  refine ⟨rfl, rfl, fun a b => ⟨rfl, truncRat_of_nonneg, truncRat_of_neg⟩, ?_, fun _ _ => rfl, fun _ => rfl, ?_⟩
  · rintro v1 rfl
    exact ⟨rfl, rfl, rfl⟩
  · rintro vh x rfl rfl
    rfl

/-- Settles O40: B7 fails with no result, or commits a clamped humidity. -/
theorem bmeHumidityIsClamped : Obligations.BmeHumidityIsClamped := by
  intro s t i h hp
  obtain ⟨hidle, -⟩ | ⟨-, rfl⟩ := exec_next h
  · cases hp.symm.trans hidle
  · rw [phaseOf_eq_phaseAt, hp, phaseAt]
    by_cases hd : s.bme.divisor Config.params.fp = 0
    · rw [phaseB7_fails hd]
      exact .inl rfl
    · rw [phaseB7_commits hd]
      exact .inr ⟨_, rfl, clampPercent_mem _⟩

/-- Settles O46: the accept leads to B1, B1 to B6 read and configure, and B7 commits or fails by the divisor. -/
theorem bme280WholeCommand : Obligations.Bme280WholeCommand := by
  intro s a id h1 c h d opens reads hp hi hin hc hh hd ho hr
  have hcrit : s.crit = false := by
    obtain ⟨-, hidle, -⟩ := hi.crit_open
    exact hidle hp
  have hexec : exec (.readBme280 a) s = .next (startOf (.readBme280 a) s) := exec_idle hp
  obtain ⟨m, q, hrun, hum, hmeas, hconfig⟩ :=
    run_bme280 1 (s := startOf (.readBme280 a) s) hin rfl hc hh hd ho hr
  obtain ⟨hP, hT, hH⟩ := bmeData_toNat d s.bme
  by_cases hdiv : (bmeData d { s.bme with
      coef := bmeCalibH2 h (bmeCalibH1 [h1] (bmeCalibTp c s.bme.coef)) }).divisor Config.params.fp = 0
  · refine ⟨_, _, hexec, hrun.trans (run_succ_phase 0 hin rfl (phaseB7_fails hdiv)), ⟨rfl, rfl, rfl, rfl⟩,
      rfl, rfl, rfl, rfl, rfl, hP, hT, hH, hum, hmeas, hconfig, ?_⟩
    rintro fp k var1 var2 v1 divisor p raw tFine rfl rfl rfl rfl rfl rfl rfl rfl rfl
    exact (if_pos hdiv).mpr ⟨rfl, rfl⟩
  · refine ⟨_, _, hexec, hrun.trans (run_succ_phase 0 hin rfl (phaseB7_commits hdiv)), ⟨rfl, rfl, rfl, hcrit⟩,
      rfl, rfl, rfl, rfl, rfl, hP, hT, hH, hum, hmeas, hconfig, ?_⟩
    rintro fp k var1 var2 v1 divisor p raw tFine rfl rfl rfl rfl rfl rfl rfl rfl rfl
    exact (if_neg hdiv).mpr ⟨rfl, rfl, rfl, rfl⟩

end Sys2Proof.Machine
end

section
/-! SUPPORT. The lines of the BMP180 compensation (`43_bmp180.md` R226 to R228): when a run of them comes to its end,
and the temporaries it then leaves. -/

namespace Sys2Proof.Machine

variable {lines rest : List BmpLine} {l : BmpLine} {t t' u : BmpTmp} {fits fits' : Prop}

@[simp] theorem runLines_nil_eq_true : runLines [] t = (true, u) ↔ u = t := by
  simp [runLines, eq_comm]

@[simp] theorem runLines_cons_eq_true :
    runLines (l :: rest) t = (true, u) ↔ ∃ v, l t = some v ∧ runLines rest v = (true, u) := by
  cases h : l t <;> simp [runLines, h]

theorem runLines_append_eq_true :
    runLines (lines ++ rest) t = (true, u) ↔ ∃ v, runLines lines t = (true, v) ∧ runLines rest v = (true, u) := by
  induction lines generalizing t with
  | nil => simp
  | cons l lines ih =>
    simp only [List.cons_append, runLines_cons_eq_true, ih]
    tauto

/-- Run on `t`, the lines come to their end exactly where `fits` holds, and there they leave `u`. -/
def RunsIff (lines : List BmpLine) (t : BmpTmp) (fits : Prop) (u : BmpTmp) : Prop :=
  ∀ v, runLines lines t = (true, v) ↔ fits ∧ v = u

theorem RunsIff.fst_eq_true (h : RunsIff lines t fits u) : (runLines lines t).1 = true ↔ fits :=
  ⟨fun hr => ((h _).1 (Prod.ext hr rfl)).1, fun hf => congrArg Prod.fst ((h u).2 ⟨hf, rfl⟩)⟩

theorem RunsIff.run_eq (h : RunsIff lines t fits u) (hf : fits) : runLines lines t = (true, u) := (h u).2 ⟨hf, rfl⟩

theorem RunsIff.congr (h : RunsIff lines t fits u) (hf : fits ↔ fits') : RunsIff lines t fits' u := fun v => by
  rw [h v, hf]

/-- Lines after lines; what the second part says may use that the first came to its end. -/
theorem RunsIff.append (h : RunsIff lines t fits t') (h' : fits → RunsIff rest t' fits' u) :
    RunsIff (lines ++ rest) t (fits ∧ fits') u := by
  intro v
  rw [runLines_append_eq_true]
  constructor
  · rintro ⟨w, hw, hv⟩
    obtain ⟨hf, rfl⟩ := (h w).1 hw
    obtain ⟨hf', hu⟩ := (h' hf v).1 hv
    exact ⟨⟨hf, hf'⟩, hu⟩
  · rintro ⟨⟨hf, hf'⟩, rfl⟩
    exact ⟨t', h.run_eq hf, (h' hf).run_eq hf'⟩

/-! The range checks (R228). -/

@[simp] theorem inS32_eq_some {q z : Int} : inS32 q = some z ↔ FitsS32 q ∧ z = q := by
  simp [inS32, FitsS32, eq_comm]

@[simp] theorem inU32_eq_some {q z : Int} : inU32 q = some z ↔ FitsU32 q ∧ z = q := by
  simp [inU32, FitsU32, eq_comm]

theorem FitsS32.sar {q : Int} (h : FitsS32 q) (n : Nat) : FitsS32 (sar q n) := by
  obtain ⟨hlo, hhi⟩ := h
  have hpos : (0 : Int) < 2 ^ n := by positivity
  constructor
  · exact (Int.le_ediv_iff_mul_le hpos).2 (by nlinarith)
  · exact Int.lt_add_one_iff.1 ((Int.ediv_lt_iff_lt_mul hpos).2 (by nlinarith))

/-- A shift right does not leave the range, so only the value shifted is tested. -/
@[simp] theorem shiftChecked_eq_some {a z : Int} {n : Nat} :
    shiftChecked a n = some z ↔ FitsS32 a ∧ z = a / 2 ^ n := by
  simp only [shiftChecked, Option.bind_eq_some_iff, inS32_eq_some]
  constructor
  · rintro ⟨q, ⟨h, rfl⟩, -, rfl⟩
    exact ⟨h, rfl⟩
  · rintro ⟨h, rfl⟩
    exact ⟨a, ⟨h, rfl⟩, h.sar n, rfl⟩

/-! The lines, one group after the other: each line has a result exactly where its checks pass. -/

theorem temperatureLines_runsIff (m : DivMode) (k : BmpCoef) (ut : Int) {x1 den x2 : Int}
    (hx1 : x1 = (ut - k.ac6) * k.ac5 / 32768) (hden : den = x1 + k.md) (hx2 : x2 = sdiv m (k.mc * 2048) den) :
    RunsIff (temperatureLines m k ut) t
      (den ≠ 0 ∧
        ∀ z ∈ [ut - k.ac6, (ut - k.ac6) * k.ac5, den, k.mc * 2048, x2, x1 + x2, x1 + x2 + 8], FitsS32 z)
      { t with x1 := x1, x2 := x2, b5 := x1 + x2, t10 := (x1 + x2 + 8) / 16 } := by
  intro v
  subst hx2 hden hx1
  simp [temperatureLines, Option.bind_eq_some_iff]
  tauto

theorem pressureLinesB3_runsIff (k : BmpCoef) {b6 sq x3 b3 : Int} (hb6 : b6 = t.b5 - 4000)
    (hsq : sq = b6 * b6 / 4096) (hx3 : x3 = k.b2 * sq / 2048 + k.ac2 * b6 / 2048)
    (hb3 : b3 = (k.ac1 * 4 + x3 + 2) / 4) :
    RunsIff (pressureLinesB3 0 k) t
      (∀ z ∈ [b6, b6 * b6, k.b2 * sq, k.ac2 * b6, x3, k.ac1 * 4, k.ac1 * 4 + x3, k.ac1 * 4 + x3 + 2], FitsS32 z)
      { t with b6 := b6, x1 := k.b2 * sq / 2048, x2 := k.ac2 * b6 / 2048, x3 := x3, b3 := b3 } := by
  intro v
  subst hb3 hx3 hsq hb6
  simp [pressureLinesB3, Option.bind_eq_some_iff]
  tauto

theorem pressureLinesB7_runsIff (k : BmpCoef) (up : Int) {sq x1 x2 x3 b4 b7 : Int}
    (hsq : sq = t.b6 * t.b6 / 4096) (hx1 : x1 = k.ac3 * t.b6 / 8192) (hx2 : x2 = k.b1 * sq / 65536)
    (hx3 : x3 = (x1 + x2 + 2) / 4) (hb4 : b4 = k.ac4 * (x3 + 32768) / 32768) (hb7 : b7 = (up - t.b3) * 50000) :
    RunsIff (pressureLinesB7 0 k up) t
      (0 ≤ x3 + 32768 ∧ 0 ≤ up - t.b3 ∧
        (∀ z ∈ [k.ac3 * t.b6, t.b6 * t.b6, k.b1 * sq, x1 + x2, x1 + x2 + 2, x3 + 32768, up - t.b3], FitsS32 z) ∧
        ∀ z ∈ [k.ac4 * (x3 + 32768), b4, b7], FitsU32 z)
      { t with x1 := x1, x2 := x2, x3 := x3, b4 := b4, b7 := b7 } := by
  intro v
  subst hb7 hb4 hx3 hx2 hx1 hsq
  simp [pressureLinesB7, sar, Option.bind_eq_some_iff]
  tauto

/-- The division of R227 doubles B7 where B7 is below 2^31, so the double is in the unsigned range. -/
theorem FitsU32.double {b : Int} (h : FitsU32 b) (hlt : b < 0x80000000) : FitsU32 (b * 2) := by
  obtain ⟨hlo, -⟩ := h
  constructor <;> omega

theorem pressureLinesP_runsIff {p x1 x2 : Int} (hb7 : FitsU32 t.b7)
    (hp : p = if t.b7 < 0x80000000 then t.b7 * 2 / t.b4 else t.b7 / t.b4 * 2)
    (hx1 : x1 = p / 256 * (p / 256) * 3038 / 65536) (hx2 : x2 = -7357 * p / 65536) :
    RunsIff pressureLinesP t
      (t.b4 ≠ 0 ∧ ∀ z ∈ [p, p / 256 * (p / 256), p / 256 * (p / 256) * 3038, -7357 * p, x1 + x2, x1 + x2 + 3791,
        p + (x1 + x2 + 3791) / 16], FitsS32 z)
      { t with x1 := x1, x2 := x2, p := p + (x1 + x2 + 3791) / 16 } := by
  intro v
  subst hx2 hx1
  split_ifs at hp with hlt
  · subst hp
    simp [pressureLinesP, sar, Option.bind_eq_some_iff, hlt, hb7.double hlt]
    tauto
  · subst hp
    simp [pressureLinesP, sar, Option.bind_eq_some_iff, hlt]
    tauto

end Sys2Proof.Machine
end

section
/-! SUPPORT. The phases of READ_BMP180 after the chip ID (`43_bmp180.md` R223 to R228): the raw readings as numbers, the
two ways a computation ends, and the runs of the phases on a script. -/

namespace Sys2Proof.Machine

variable {s : State} {lines : List BmpLine} {next : State → State} {c t q : List Byte} {reads : List (List Byte)}

theorem bmpUt_toNat (t : List Byte) : (bmpUt t).toNat = 256 * (t.getD 0 0).toNat + (t.getD 1 0).toNat := by
  rw [bmpUt, append_byte_toNat, Nat.mul_comm]

/-- The third byte of the pressure is shifted out (R109). -/
theorem bmpUp_toNat (q : List Byte) : (bmpUp q).toNat = 256 * (q.getD 0 0).toNat + (q.getD 1 0).toNat := by
  have := (q.getD 0 0).isLt
  have := (q.getD 1 0).isLt
  have := (q.getD 2 0).isLt
  simp only [bmpUp, bmpOss, byteAt, BitVec.toNat_ofNat]
  omega

/-! A computation. -/

theorem bmpCompute_completes (h : (runLines lines s.bmp.tmp).1 = true) :
    bmpCompute lines next s = next { s with bmp := { s.bmp with tmp := (runLines lines s.bmp.tmp).2 } } :=
  if_pos h

theorem bmpCompute_faults (hc : s.crit = false) (h : (runLines lines s.bmp.tmp).1 = false) :
    bmpCompute lines next s =
      { s.failedWith 11 with bmp := { s.bmp with tmp := (runLines lines s.bmp.tmp).2 } } :=
  (if_neg (Bool.eq_false_iff.1 h)).trans (fail_eq_failedWith rfl hc)

theorem RunsIff.bmpCompute {fits : Prop} {u : BmpTmp} (hc : s.crit = false) (h : RunsIff lines s.bmp.tmp fits u) :
    (fits → bmpCompute lines next s = next { s with bmp := { s.bmp with tmp := u } }) ∧
    (¬ fits → ∃ tmp, bmpCompute lines next s = { s.failedWith 11 with bmp := { s.bmp with tmp := tmp } }) := by
  refine ⟨fun hf => ?_, fun hf => ⟨_, bmpCompute_faults hc (Bool.eq_false_iff.2 (mt h.fst_eq_true.1 hf))⟩⟩
  rw [bmpCompute_completes (h.fst_eq_true.2 hf), h.run_eq hf]

/-- The lines of P6 on the buffers. -/
def BmpBuf.temperatureRun (b : BmpBuf) : Bool × BmpTmp := runLines (temperatureLines bmpDiv b.coef b.ut.toNat) b.tmp

/-- The lines of P7 on the buffers. -/
def BmpBuf.pressureRun (b : BmpBuf) : Bool × BmpTmp := runLines (pressureLines bmpOss b.coef b.up.toNat) b.tmp

theorem phaseP6_completes (h : s.bmp.temperatureRun.1 = true) :
    phaseP6 s = { s with ph := .p7, bmp := { s.bmp with tmp := s.bmp.temperatureRun.2 } } :=
  bmpCompute_completes h

theorem phaseP6_faults (hc : s.crit = false) (h : s.bmp.temperatureRun.1 = false) :
    phaseP6 s = { s.failedWith 11 with bmp := { s.bmp with tmp := s.bmp.temperatureRun.2 } } :=
  bmpCompute_faults hc h

theorem phaseP7_completes (h : s.bmp.pressureRun.1 = true) :
    phaseP7 s = { s with
      ph := .idle, busy := false, done := true, resP := some (.integer s.bmp.pressureRun.2.p)
      bmp := { s.bmp with tmp := s.bmp.pressureRun.2 } } :=
  bmpCompute_completes h

theorem phaseP7_faults (hc : s.crit = false) (h : s.bmp.pressureRun.1 = false) :
    phaseP7 s = { s.failedWith 11 with bmp := { s.bmp with tmp := s.bmp.pressureRun.2 } } :=
  bmpCompute_faults hc h

/-! The steps without inputs, when every read is answered in full. -/

theorem phaseP3_scripted (hc : c.length = 22) (hr : s.env.i2cRead = c :: reads) :
    ∃ q, phaseP3 s = { s with
      ph := .p4, bmp := { s.bmp with coef := bmpCalib c }, env := { s.env with i2cRead := reads }, history := q } := by
  obtain ⟨q, h⟩ := mandatoryRead_scripted bmpRegCalib hr hc
  exact ⟨q, h _⟩

/-- A measurement request and the read that follows it, in P4 and in P5. -/
theorem request_scripted (us : Nat) (r v r' : Byte) {n : Nat} {b : List Byte} (hb : b.length = n)
    (hr : s.env.i2cRead = b :: reads) :
    ∃ m d q, ∀ use, mandatoryRead r' n use (wait us (i2cWrite r v s)) =
      use b { s with delay := d, sensors := m, env := { s.env with i2cRead := reads }, history := q } := by
  obtain ⟨m, d, q, hrequest⟩ := request_frame us r v s
  obtain ⟨q', h⟩ := mandatoryRead_scripted r' (s := { s with sensors := m, delay := d, history := q }) hr hb
  exact ⟨m, d, q', fun use => hrequest ▸ h use⟩

theorem phaseP4_scripted (ht : t.length = 2) (hr : s.env.i2cRead = t :: reads) :
    ∃ m d q, phaseP4 s = { s with
      ph := .p5, delay := d, sensors := m, bmp := { s.bmp with ut := bmpUt t }
      env := { s.env with i2cRead := reads }, history := q } := by
  obtain ⟨m, d, q, h⟩ := request_scripted bmpTWaitUs bmpRegCtrl bmpValCtrlT bmpRegData ht hr
  exact ⟨m, d, q, h _⟩

theorem phaseP5_scripted (hq : q.length = 3) (hr : s.env.i2cRead = q :: reads) :
    ∃ m d e, phaseP5 s = { s with
      ph := .p6, delay := d, sensors := m, bmp := { s.bmp with up := bmpUp q }
      env := { s.env with i2cRead := reads }, history := e } := by
  obtain ⟨m, d, e, h⟩ := request_scripted bmpPWaitUs bmpRegCtrl bmpValCtrlP bmpRegData hq hr
  exact ⟨m, d, e, h _⟩

/-- P1 to P5. -/
theorem run_bmp180 {id : Byte} {opens : List Bool} (n : Nat) (hin : s.inputs = []) (hp : s.ph = .p1)
    (hc : c.length = 22) (ht : t.length = 2) (hq : q.length = 3) (ho : s.env.i2cOpen = true :: opens)
    (hr : s.env.i2cRead = [id] :: c :: t :: q :: reads) :
    ∃ m d e, Host.Core.run core (n + 5) s = Host.Core.run core n { s with
      ph := .p6, chipid := some id, delay := d, sensors := m
      bmp := { s.bmp with coef := bmpCalib c, ut := bmpUt t, up := bmpUp q }
      env := { s.env with i2cOpen := opens, i2cRead := reads }, history := e } := by
  obtain ⟨e, hidentify⟩ := run_identify (n + 3) hin hp (.inr rfl) ho hr
  obtain ⟨e', hp3⟩ := phaseP3_scripted (s := { s with
    ph := .p3, chipid := some id
    env := { s.env with i2cOpen := opens, i2cRead := c :: t :: q :: reads }, history := e }) hc rfl
  obtain ⟨m, d, e'', hp4⟩ := phaseP4_scripted (s := { s with
    ph := .p4, chipid := some id, bmp := { s.bmp with coef := bmpCalib c }
    env := { s.env with i2cOpen := opens, i2cRead := t :: q :: reads }, history := e' }) ht rfl
  obtain ⟨m', d', e''', hp5⟩ := phaseP5_scripted (s := { s with
    ph := .p5, chipid := some id, delay := d, sensors := m, bmp := { s.bmp with coef := bmpCalib c, ut := bmpUt t }
    env := { s.env with i2cOpen := opens, i2cRead := q :: reads }, history := e'' }) hq rfl
  exact ⟨m', d', e''', ((hidentify.trans (run_succ_phase (p := .p3) (n + 2) hin rfl hp3)).trans
    (run_succ_phase (p := .p4) (n + 1) hin rfl hp4)).trans (run_succ_phase (p := .p5) n hin rfl hp5)⟩

/-- P6 and P7: the pressure where both runs of lines come to their end, else ArithFault. -/
theorem run_compensate {t1 t2 : Bool × BmpTmp} (hin : s.inputs = []) (hp : s.ph = .p6) (hc : s.crit = false)
    (he : s.err = 0) (hT : s.resT = none) (hH : s.resH = none) (hpin : s.pinval = none)
    (ht1 : t1 = s.bmp.temperatureRun) (ht2 : t2 = { s.bmp with tmp := t1.2 }.pressureRun) :
    ∃ v, Host.Core.run core 2 s = .next v ∧ v.Ended ∧ v.chipid = s.chipid ∧ v.resT = none ∧ v.resH = none ∧
      v.pinval = none ∧ v.gpio = s.gpio ∧ v.env = s.env ∧
      (t1.1 = true → t2.1 = true → v.err = 0 ∧ v.resP = some (.integer t2.2.p)) ∧
      (t1.1 = false ∨ t2.1 = false → v.err = 11 ∧ v.resP = none) := by
  subst ht2 ht1
  cases h1 : s.bmp.temperatureRun.1
  · exact ⟨_, (run_succ_phase 1 hin hp (phaseP6_faults hc h1)).trans (run_succ_phase (p := .idle) 0 hin rfl rfl),
      ⟨rfl, rfl, rfl, rfl⟩, rfl, rfl, rfl, rfl, rfl, rfl, nofun, fun _ => ⟨rfl, rfl⟩⟩
  · have hp6 := run_succ_phase 1 hin hp (phaseP6_completes h1)
    cases h2 : { s.bmp with tmp := s.bmp.temperatureRun.2 }.pressureRun.1
    · exact ⟨_, hp6.trans (run_succ_phase (p := .p7) 0 hin rfl (phaseP7_faults hc h2)),
        ⟨rfl, rfl, rfl, rfl⟩, rfl, rfl, rfl, rfl, rfl, rfl, nofun, fun _ => ⟨rfl, rfl⟩⟩
    · exact ⟨_, hp6.trans (run_succ_phase (p := .p7) 0 hin rfl (phaseP7_completes h2)),
        ⟨rfl, rfl, rfl, hc⟩, rfl, hT, hH, hpin, rfl, rfl, fun _ _ => ⟨he, rfl⟩, by simp⟩

end Sys2Proof.Machine
end

section
/-! READ_BMP180: its measurements, its compensation, and the command as a whole (`43_bmp180.md`). -/

namespace Sys2Proof.Machine

/-- Settles O37: each phase is a request and a mandatory read, and the reading is the first two bytes. -/
theorem bmpMeasurements : Obligations.BmpMeasurements := by
  refine ⟨fun s b hp hb => ⟨bmpUt b, ?_, bmpUt_toNat b⟩, fun s q hp hq => ⟨bmpUp q, ?_, bmpUp_toNat q⟩⟩ <;>
    rw [exec_phaseAt hp (by simp only [State.inFlight, hp]), phaseAt]
  · exact congrArg _ (mandatoryRead_full (s := s.afterRequest 0xF4 0x2E 4500) hb)
  · exact congrArg _ (mandatoryRead_full (s := s.afterRequest 0xF4 0x34 5000) hq)

/-- Settles O41: the lines of P6 come to their end exactly where `fits` holds. -/
theorem bmpTemperatureCompensation : Obligations.BmpTemperatureCompensation := by
  rintro s diff x1 den x2 fits hp hi rfl rfl rfl rfl hfits
  rw [exec_phaseAt hp (by simp only [State.inFlight, hp]), phaseAt, phaseP6]
  obtain ⟨hok, hfault⟩ := (temperatureLines_runsIff bmpDiv s.bmp.coef s.bmp.ut.toNat rfl rfl rfl).bmpCompute
    (next := gotoPhase .p7) (hi.crit_onBus (hp ▸ rfl))
  refine ⟨fun h => congrArg _ (hok (hfits.1 h)), fun h => ?_⟩
  obtain ⟨tmp, htmp⟩ := hfault (mt hfits.2 h)
  exact ⟨tmp, congrArg _ htmp⟩

/-- Settles O42: the lines of P7 come to their end exactly where `fits` holds; B6 squared is tested twice. -/
theorem bmpPressureCompensation : Obligations.BmpPressureCompensation := by
  rintro s k b6 sq x3a b3 x1b x2b x3 b4 b7 p x1 x2 r fits hp hi rfl hb6 hsq hx3a hb3 hx1b hx2b hx3 hb4 hb7 hpdef hx1 hx2
    rfl hfits
  rw [exec_phaseAt hp (by simp only [State.inFlight, hp]), phaseAt, phaseP7]
  have hlines := ((pressureLinesB3_runsIff (t := s.bmp.tmp) s.bmp.coef hb6 hsq hx3a hb3).append fun _ =>
    pressureLinesB7_runsIff s.bmp.coef s.bmp.up.toNat hsq hx1b hx2b hx3 hb4 hb7).append
      fun ⟨_, _, _, _, hU⟩ => pressureLinesP_runsIff (hU _ (by simp)) hpdef hx1 hx2
  have hruns : RunsIff (pressureLines bmpOss s.bmp.coef s.bmp.up.toNat) s.bmp.tmp fits { s.bmp.tmp with
      x1 := x1, x2 := x2, x3 := x3, b3 := b3, b4 := b4, b6 := b6, b7 := b7, p := p + (x1 + x2 + 3791) / 16 } :=
    hlines.congr (by rw [hfits]; simp; tauto)
  obtain ⟨hok, hfault⟩ := hruns.bmpCompute
    (next := fun t => finish { t with resP := some (.integer t.bmp.tmp.p) }) (hi.crit_onBus (hp ▸ rfl))
  refine ⟨fun h => ⟨_, by rfl, by rfl, by rfl, congrArg _ (hok h)⟩, fun h => ?_⟩
  obtain ⟨tmp, htmp⟩ := hfault h
  exact ⟨tmp, congrArg _ htmp⟩

/-- Settles O45: the accept leads to P1, P1 to P5 read, and P6 and P7 end the command by their lines. -/
theorem bmp180WholeCommand : Obligations.Bmp180WholeCommand := by
  intro s a id c t q opens reads hp hi hin hc ht hq ho hr
  have hcrit : s.crit = false := by
    obtain ⟨-, hidle, -⟩ := hi.crit_open
    exact hidle hp
  have hexec : exec (.readBmp180 a) s = .next (startOf (.readBmp180 a) s) := exec_idle hp
  obtain ⟨m, d, e, hrun⟩ := run_bmp180 2 (s := startOf (.readBmp180 a) s) hin rfl hc ht hq ho hr
  obtain ⟨v, hend, hv⟩ := run_compensate (s := { startOf (.readBmp180 a) s with
    ph := .p6, chipid := some id, delay := d, sensors := m
    bmp := { s.bmp with coef := bmpCalib c, ut := bmpUt t, up := bmpUp q }
    env := { s.env with i2cOpen := opens, i2cRead := reads }, history := e }) hin rfl hcrit rfl rfl rfl rfl rfl rfl
  obtain ⟨hended, hchipid, hresT, hresH, hpinval, hgpio, henv, hresult⟩ := hv
  exact ⟨_, v, hexec, hrun.trans hend, hended, hchipid, hresT, hresH, hpinval, hgpio, henv, _, _, rfl, rfl, hresult⟩

/-- Settles O43: the temporaries of the datasheet's example, evaluated line by line. -/
theorem bmpWorkedExample : Obligations.BmpWorkedExample := fun t =>
  ⟨{ t with x1 := 4743, x2 := -2343, b5 := 2400, t10 := 150 },
    { t with
      b5 := 2400, t10 := 150, b6 := -1600, b3 := 422, b4 := 33457, b7 := 1171050000
      x1 := 3454, x2 := -7859, x3 := 717, p := 69964 },
    { t with x1 := 4743, x2 := -2344, b5 := 2399, t10 := 150 },
    { t with
      b5 := 2399, t10 := 150, b6 := -1601, b3 := 422, b4 := 33457, b7 := 1171050000
      x1 := 3454, x2 := -7859, x3 := 717, p := 69964 },
    rfl, rfl, rfl, rfl, rfl, rfl, rfl, rfl, rfl, rfl⟩

end Sys2Proof.Machine
end

section
/-! How a command ends in failure (`60_exceptions.md` R251, R265; `30_encoding.md` R110). -/

namespace Sys2Proof.Machine

variable {s : State} {k : Failure}

/-- The failure kinds in the order of R251. -/
def failureKinds : List Failure :=
  [.gpioNotInitialized, .ackTimeout, .pulseTimeout, .checksumMismatch, .busOpenFailure, .ioError,
    .initDeviceTreeUnreadable, .initDeviceUnavailable, .initMapFailed, .illegalCommand, .arithFault]

/-- R110 numbers the kinds from 1, in the order of R251. -/
theorem failureKinds_code : failureKinds[k.code.toNat - 1]? = some k := by
  cases k <;> rfl

/-- The code is the kind's place in the list of R251, so it tells the kinds apart. -/
theorem Failure.code_injective : Function.Injective Failure.code := fun j k h =>
  Option.some.inj <| calc
    some j = failureKinds[j.code.toNat - 1]? := failureKinds_code.symm
    _ = failureKinds[k.code.toNat - 1]? := by rw [h]
    _ = some k := failureKinds_code

theorem Failure.halts_eq_decide :
    k.halts = decide (k = .initDeviceTreeUnreadable ∨ k = .initDeviceUnavailable ∨ k = .initMapFailed) := by
  cases k <;> rfl

/-- The release of CRIT is an event only where CRIT was held (`20_memory.md` R77). -/
theorem setCrit_false_eq : setCrit false s =
    { s with crit := false, history := if s.crit then .crit false :: s.history else s.history } := by
  rw [setCrit]
  cases s.crit <;> rfl

/-- Settles O49: the codes number the kinds of R251 in order, and `fail` releases CRIT and writes the outcome. -/
theorem failureEntry : Obligations.FailureEntry := by
  refine ⟨⟨rfl, fun j k h => Failure.code_injective h⟩, fun k s => ?_⟩
  rw [fail, setCrit_false_eq, Failure.halts_eq_decide]

end Sys2Proof.Machine
end

section
/-! SUPPORT. What no phase moves (GINIT, GBASE and the inputs), what keeps GINIT, HALT and GBASE, and how far a command
is from its end (`10_state.md` R23, R24; `40_gpio.md` R120; `70_reset_and_hazards.md` R290, R299). -/

namespace Sys2Proof.Machine

variable {s t : State} {i : Instr} {p : Phase}

/-! What no phase moves. -/

/-- GINIT, GBASE and the inputs. -/
def State.standing (s : State) : Bool × Nat × List Input := (s.ginit, s.gbase, s.inputs)

theorem State.standing_eq (h : t.standing = s.standing) :
    t.ginit = s.ginit ∧ t.gbase = s.gbase ∧ t.inputs = s.inputs := by
  simpa only [State.standing, Prod.mk.injEq] using h

theorem mandatoryRead_standing {r : Byte} {n : Nat} {use : List Byte → State → State}
    (huse : ∀ b t, (use b t).standing = t.standing) (s : State) : (mandatoryRead r n use s).standing = s.standing := by
  obtain ⟨-, h⟩ | ⟨b, -, h⟩ := mandatoryRead_cases r n use s <;> rw [h]
  · rfl
  · exact huse b (i2cRead r n s).2

theorem chipIdPhase_standing (m : Bool) (r : Byte) (next : Phase) (s : State) :
    (chipIdPhase m r next s).standing = s.standing := by
  obtain ⟨b, -, h⟩ | ⟨-, -, h⟩ | ⟨-, -, h⟩ := chipIdPhase_cases m r next s <;> rw [h] <;> rfl

theorem busOpen_standing (next : Phase) (s : State) :
    (if (i2cOpen s).1 then gotoPhase next (i2cOpen s).2 else fail .busOpenFailure (i2cOpen s).2).standing =
      s.standing := by
  split <;> rfl

theorem bmpCompute_standing {lines : List BmpLine} {next : State → State}
    (hnext : ∀ t, (next t).standing = t.standing) (s : State) : (bmpCompute lines next s).standing = s.standing := by
  obtain ⟨t, rfl, ⟨-, h⟩ | ⟨-, h⟩⟩ := bmpCompute_cases lines next s <;> rw [h]
  · exact hnext _
  · rfl

theorem phaseAt_standing (P : Params) (p : Phase) (s : State) : (phaseAt P p s).standing = s.standing := by
  cases p <;> simp only [phaseAt]
  case ow1b | ow2 | ow5 | ow7 => rfl
  case ow0 =>
    unfold phaseOw0
    split <;> rfl
  case ow1a =>
    obtain ⟨g, d, h, hu⟩ := phaseOw1a_frame s
    rw [hu]
    rfl
  case ow3 =>
    obtain ⟨e, c, h, hu, -⟩ := spinWhile_frame s.pinr true s
    unfold phaseOw3
    rw [hu]
    split <;> rfl
  case ow4 =>
    obtain ⟨e, o, h, hu, -⟩ := captureFrom_frame s.pinr owTraceLen 0 (clearTrace s)
    unfold phaseOw4
    rw [hu]
    split <;> rfl
  case ow6 =>
    unfold phaseOw6
    split <;> rfl
  case b1 | p1 => exact busOpen_standing _ s
  case b2 | p2 => exact chipIdPhase_standing _ _ _ s
  case b3 | b6 | p3 => exact mandatoryRead_standing (fun _ _ => by rfl) s
  case b4 =>
    refine mandatoryRead_standing (fun a t => .trans (mandatoryRead_standing (fun h u => ?_) _) ?_) s
    · rfl
    · rfl
  case b5 => simp [phaseB5, State.standing]
  case b7 =>
    dsimp only [phaseB7]
    split <;> rfl
  case p4 | p5 =>
    refine .trans (mandatoryRead_standing (fun b t => ?_) _) ?_
    · rfl
    · simp [State.standing]
  case p6 | p7 => exact bmpCompute_standing (fun _ => by rfl) s

theorem startOf_inputs (i : Instr) (s : State) : (startOf i s).inputs = s.inputs := by
  cases hi : busCommand i with
  | true =>
    obtain ⟨a, rfl | rfl⟩ := busCommand_iff.1 hi <;> rfl
  | false =>
    have hside := (startOf_offBus hi s).side
    simp only [State.busSide, Prod.mk.injEq] at hside
    obtain ⟨-, -, -, -, -, -, -, -, hin⟩ := hside
    exact hin

/-! What keeps GINIT, HALT and GBASE. -/

/-- GINIT and HALT stay set, and GBASE stays as it was once GINIT is set. -/
structure KeepsInit (s t : State) : Prop where
  ginit : s.ginit = true → t.ginit = true
  halt : s.halt = true → t.halt = true
  gbase : s.ginit = true → t.gbase = s.gbase

theorem PhaseOutcome.halt_eq (h : PhaseOutcome p s t) : t.halt = s.halt := by
  cases h with
  | goesOn _ hu | succeeds _ hu =>
    obtain ⟨-, -, -, hh, -⟩ := State.carried_eq hu
    exact hh
  | fails hu hk =>
    obtain ⟨-, -, -, hh, -⟩ := State.carried_eq hu
    simp [hk, hh]

theorem StartOutcome.halt_of_halt (h : StartOutcome s t) (hs : s.halt = true) : t.halt = true := by
  cases h with
  | accepted _ hu =>
    obtain ⟨-, -, -, hh, -⟩ := State.carried_eq hu
    exact hh.trans hs
  | fails hh => simp [hh, hs]
  | succeeds hh => exact hh.trans hs

/-- With GINIT set, GPIO_INIT asks no one and no other command moves GINIT or GBASE (`40_gpio.md` R120). -/
theorem startOf_ginit (hg : s.ginit = true) : (startOf i s).ginit = true ∧ (startOf i s).gbase = s.gbase := by
  have ha : (accept s).ginit = true := hg
  cases i with
  | gpioInit =>
    rw [startOf, gpioInitBody_mapped ha]
    exact ⟨hg, rfl⟩
  | setInput _ | setOutput _ | setHigh _ | setLow _ | readPin _ =>
    rw [startOf, pinBody_ready ha]
    exact ⟨hg, rfl⟩
  | readOneWire _ _ | readBme280 _ | readBmp180 _ => exact ⟨hg, rfl⟩

theorem exec_keepsInit (h : exec i s = .next t) : KeepsInit s t := by
  obtain ⟨-, rfl⟩ | ⟨hf, rfl⟩ := exec_next h
  · exact ⟨fun hg => (startOf_ginit hg).1, (startOf_outcome i).halt_of_halt, fun hg => (startOf_ginit hg).2⟩
  · have hp : s.ph ≠ .idle := fun hp => nomatch (inFlight_eq_none.2 hp).symm.trans hf
    rw [phaseOf_eq_phaseAt]
    obtain ⟨hginit, hgbase, -⟩ := State.standing_eq (phaseAt_standing Config.params s.ph s)
    exact ⟨hginit.trans, (phaseAt_outcome Config.params hp).halt_eq.trans, fun _ => hgbase⟩

/-! The way to the end of a command. -/

/-- A phase ends the command, or goes on to the phase after it with CRIT as that phase asks. -/
theorem PhaseOutcome.ended_or_goesOn (h : PhaseOutcome p s t) (hc : s.crit = p.critical) :
    t.Ended ∨ (p.following ≠ .idle ∧ t.ph = p.following ∧ t.crit = p.following.critical) := by
  cases h with
  | goesOn hp _ _ hcu => exact .inr ⟨hp, rfl, hcu hc⟩
  | fails => exact .inl ⟨rfl, rfl, rfl, rfl⟩
  | succeeds hp _ hcu =>
    have hlast : p.critical = false := by
      revert hp
      cases p <;> decide
    exact .inl ⟨rfl, rfl, rfl, hcu.trans (hc.trans hlast)⟩

/-- A command with at most `n` phases to go ends within `n` steps. -/
theorem run_ends {n : Nat} (hn : Phase.following^[n] s.ph = .idle) (hin : s.inputs = []) (hp : s.ph ≠ .idle)
    (hc : s.crit = s.ph.critical) : ∃ k ≤ n, ∃ u, Host.Core.run core k s = .next u ∧ State.Ended u := by
  induction n generalizing s with
  | zero => exact absurd hn hp
  | succ n ih =>
    obtain hend | ⟨hnext, hph, hcrit⟩ := (phaseAt_outcome Config.params hp).ended_or_goesOn hc
    · exact ⟨1, by omega, _, run_succ_noInput 0 hin rfl, hend⟩
    · obtain ⟨-, -, hin'⟩ := State.standing_eq (phaseAt_standing Config.params s.ph s)
      obtain ⟨k, hk, u, hrun, hu⟩ := ih (hph ▸ hn) (hin'.trans hin) (hph ▸ hnext) (hph ▸ hcrit)
      exact ⟨k + 1, by omega, u, (run_succ_noInput k hin rfl).trans hrun, hu⟩

end Sys2Proof.Machine
end

section
/-! Every command ends, and only reset clears GINIT or HALT (`70_reset_and_hazards.md` R290, R299). -/

namespace Sys2Proof.Machine

/-- Settles O47: a command has ended with its accept, or is in its first phase, at most nine phases from IDLE. -/
theorem everyCommandEnds : Obligations.EveryCommandEnds := by
  intro i s hp hi hin
  have hcrit : s.crit = false := by
    obtain ⟨-, hidle, -⟩ := hi.crit_open
    exact hidle hp
  refine ⟨startOf i s, exec_idle hp, ?_⟩
  have hin' := (startOf_inputs i s).trans hin
  have hstart := startOf_outcome (s := s) i
  generalize startOf i s = t at hin' hstart
  cases hstart with
  | accepted hq _ _ hc =>
    obtain rfl | rfl | rfl := hq <;> exact run_ends rfl hin' nofun (hc.trans hcrit)
  | fails => exact ⟨0, by omega, _, rfl, rfl, rfl, rfl, rfl⟩
  | succeeds _ _ _ hc => exact ⟨0, by omega, _, rfl, rfl, rfl, rfl, hc.trans hcrit⟩

/-- Settles O56: reset tests BUSY; GPIO_INIT alone sets GINIT and GBASE, and it tests GINIT; `fail` alone moves HALT. -/
theorem onlyResetClearsInitAndHalt : Obligations.OnlyResetClearsInitAndHalt := by
  refine ⟨fun s rest hin hb => (step_input hin nofun).trans (if_neg (by simp [hb])),
    fun s rest hin hb => (step_input hin nofun).trans (if_pos hb), fun s t h hreset => ?_⟩
  obtain ⟨rest, r, rfl, rfl | ⟨n, rfl⟩ | ⟨⟨l, hl⟩, -, -⟩ | ⟨-, -, rfl⟩ | ⟨i, he, -⟩⟩ := step_next h
  · exact ⟨id, id, fun _ => rfl⟩
  · obtain ⟨e, l, h⟩ := hostRead_frame Config.params.resRepr n { s with inputs := rest }
    exact h ▸ ⟨id, id, fun _ => rfl⟩
  · exact absurd hl (hreset l)
  · exact ⟨id, fun hs => by simp [hs], fun _ => rfl⟩
  · obtain ⟨hginit, hhalt, hgbase⟩ := exec_keepsInit he
    exact ⟨hginit, hhalt, hgbase⟩

end Sys2Proof.Machine
end
